-- ==== Sys2Proof/Word.lean ====
section
/-! DEFINITION. The word types of the block: what spec/ treats as bits. -/

namespace Sys2Proof

/-- One byte of the 8-bit data bus (00_scope.md R6, DATA_W). -/
abbrev Byte := BitVec 8

/-- The `offset` input of an access (R6, OFFSET_W). -/
abbrev BusOffset := BitVec 16

/-- A physical offset of RamStore or RomStore, the result of the AddressTranslator (R6, PHYS_W). -/
abbrev PhysAddr := BitVec 19

/-- A transaction word `TW` (30_encoding.md R54): spec/'s own notation of one bus operation. -/
abbrev TW := BitVec 35

/-- A decode key `K = L : V : M : TW` (30_encoding.md R57). -/
abbrev Key := BitVec 52

end Sys2Proof
end

