-- ==== Sys2Proof/Config.lean ====
section
/-! DEFINITION. What an implementation fixes: the shape of the parameters of 00_scope.md R7, and the
one free value of the model, the answer of the external ROM/flash device. The parameters' default
values stand in Sys2Proof/Machine/Parameters.lean. -/

namespace Sys2Proof

/-- The operating modes (00_scope.md R6, R7), and UNUSED for the value of the mode field that names
none of the seven (30_encoding.md R56). -/
inductive Mode
  | start | flash | superRom | ramRom | ram1 | superRam | ram2 | unused
  deriving DecidableEq, Repr

/-- The windows 1, 2, 3, 5 (00_scope.md glossary; there is no window 4). -/
inductive Window
  | w1 | w2 | w3 | w5
  deriving DecidableEq, Repr

/-- What a bit of the VisibilityRegister can hide (10_state.md R16): the fixed low window, one of the
windows 1, 2, 3, 5, or the register window. -/
inductive Region
  | w0
  | win (w : Window)
  | reg
  deriving DecidableEq, Repr

/-- The two backing stores (10_state.md section 3). -/
inductive Store
  | ram | rom
  deriving DecidableEq, Repr

/-- The two I/O select signals that parameter REG_SIGNAL chooses between (R7, decision D7). -/
inductive RegSignal
  | io3 | io2
  deriving DecidableEq, Repr

/-- Parameter MODE_ENC (30_encoding.md R55): the 3-bit value of each of the seven modes. -/
structure ModeEnc where
  start    : BitVec 3
  flash    : BitVec 3
  superRom : BitVec 3
  ramRom   : BitVec 3
  ram1     : BitVec 3
  superRam : BitVec 3
  ram2     : BitVec 3
  deriving DecidableEq, Repr

/-- What R55 asks of MODE_ENC: "an injective map from the seven modes into 0..7 with START at 0". -/
def ModeEnc.wf (e : ModeEnc) : Bool :=
  e.start == 0 &&
    decide ([e.start, e.flash, e.superRom, e.ramRom, e.ram1, e.superRam, e.ram2].Nodup)

/-- A bit position for each of the windows 1, 2, 3, 5. -/
structure WindowBits where
  w1 : Nat
  w2 : Nat
  w3 : Nat
  w5 : Nat
  deriving DecidableEq, Repr

/-- The bit that belongs to window `w`. -/
def WindowBits.pos (b : WindowBits) : Window → Nat
  | .w1 => b.w1
  | .w2 => b.w2
  | .w3 => b.w3
  | .w5 => b.w5

/-- The implementation parameters the source leaves open (00_scope.md R7), as plain data. -/
structure Config where
  /-- MODE_POS: the lowest bit of the 3-bit mode field of `M` (D1). -/
  modePos : Nat
  /-- MODE_ENC (D2). -/
  modeEnc : ModeEnc
  /-- BANK_MASK: the bits of the bank argument that reach the store (D3). -/
  bankMask : BitVec 7
  /-- SEL_BIT: the select bit of each window in `M` (D4). -/
  selBit : WindowBits
  /-- VIS_BIT: the bit of window 0 in `V` (D5). -/
  visBit0 : Nat
  /-- VIS_BIT: the bits of windows 1, 2, 3, 5 in `V` (D5). -/
  visBit : WindowBits
  /-- VIS_BIT: the bit of the register window in `V` (D5). -/
  visBitReg : Nat
  /-- VIS_POLARITY: the value of a visibility bit that hides (D6). -/
  hideLevel : Bool
  /-- REG_SIGNAL: the register window's select signal; the other I/O signal is ignored (D7). -/
  regSignal : RegSignal
  /-- START_W5_VIS_GATED: whether window 5 in mode START needs its visibility bit (D9). -/
  startW5VisGated : Bool
  /-- ROM_MODE_WRITE_TARGET: where SUPER_ROM, and RAM_ROM with the select bit set, write (D14). -/
  romModeWriteTarget : Store
  deriving DecidableEq, Repr

/-- One call the decoder makes to the external RomStore (10_state.md R22). -/
inductive RomCall
  | read (a : PhysAddr)
  | write (a : PhysAddr) (b : Byte)
  deriving DecidableEq, Repr

/-- FREE VALUE (log entry 1). The byte the external ROM/flash device answers to `RomRead a` after the
calls `history` (newest first). Nothing in spec/ constrains it (R22, D16; 93 U1, U2, U3): it stands
for the image, for the device's program/erase machine and for whatever a write made of either. -/
opaque Config.romAnswer (history : List RomCall) (a : PhysAddr) : Byte

end Sys2Proof
end

