-- ==== Sys2Proof/Machine/Parameters.lean ====
section
/-! DEFINITION. The numbers of spec/: the constants of 00_scope.md R6 that a rule uses, and the
defaults of R7. The source calls the literals unaudited (R6, N17), so each has a name. -/

namespace Sys2Proof.Machine

/-- RAM_SIZE = ROM_SIZE = 0x80000 bytes (R6; 10_state.md R20, R21). -/
def storeSize : Nat := 0x80000

/-- BANK_SIZE = 0x8000 bytes, bank shift 15 (R6). -/
def bankShift : Nat := 15

/-- BLOCK_SIZE = 0x2000 bytes, block shift 13 (R6). -/
def blockShift : Nat := 13

/-- SWAP_SHIFT: the block-swap field is `(V >> 5) & 0b11` (R6; 10_state.md R17). -/
def swapShift : Nat := 5

/-- SWAP_MASK (R6). -/
def swapMask : Byte := 0b11

/-- The mask that makes an offset a 13-bit in-block offset (30_encoding.md R63, D10). -/
def off13Mask : BusOffset := 0x1FFF

/-- REG_MATCH_MASK (R6). -/
def regMatchMask : BusOffset := 0x1C02

/-- REG_MATCH_VALUE (R6). -/
def regMatchValue : BusOffset := 0x1C02

/-- REG_INDEX_BIT: the offset bit that picks register 1 or register 2 (R6). -/
def regIndexBit : Nat := 0

/-- RESET_M (R6; 10_state.md R27). -/
def resetM : Byte := 0x00

/-- RESET_V (R6; 10_state.md R27). -/
def resetV : Byte := 0x00

/-- RESET_L: locked (R6; 10_state.md R27). -/
def resetL : Bool := true

/-- The default MODE_ENC (30_encoding.md R55). START = 0 is sourced; the six other values are spec/'s
own, from general knowledge (D2, G1); 7 is left for UNUSED. -/
def defaultModeEnc : ModeEnc where
  start    := 0
  flash    := 1
  superRom := 2
  ramRom   := 3
  ram1     := 4
  superRam := 5
  ram2     := 6

/-- The defaults of 00_scope.md R7 (decisions D1 to D7, D9, D14). -/
def defaultConfig : Config where
  modePos            := 5
  modeEnc            := defaultModeEnc
  bankMask           := 0xF
  selBit             := { w1 := 1, w2 := 2, w3 := 3, w5 := 4 }
  visBit0            := 0
  visBit             := { w1 := 1, w2 := 2, w3 := 3, w5 := 4 }
  visBitReg          := 7
  hideLevel          := true
  regSignal          := .io3
  startW5VisGated    := true
  romModeWriteTarget := .rom

end Sys2Proof.Machine
end

