-- ==== Sys2Proof/Syntax.lean ====
section
/-! DEFINITION. The operations of the block as syntax: the inputs of an access (30_encoding.md R51 to
R53), the transaction (R50), and the instruction set: one constructor of `Instr` per row of
spec/opcode_table.json (R58). A row's constructor carries the WHOLE access, so that no bit of a
transaction word is lost in decoding. The textual commands of R61 and R62 stand at the end. -/

namespace Sys2Proof

/-- The nine select signals (30_encoding.md R51); `true` means asserted, that is, selected. -/
structure Selects where
  ram1 : Bool
  ram2 : Bool
  ram3 : Bool
  blk1 : Bool
  blk2 : Bool
  blk3 : Bool
  blk5 : Bool
  io2  : Bool
  io3  : Bool
  deriving DecidableEq, Repr

/-- The inputs of a READ or a WRITE (R52, R53): `data` is `value` on a WRITE and `d_in` on a READ. -/
structure Access where
  off  : BusOffset
  sel  : Selects
  data : Byte
  deriving DecidableEq, Repr

/-- The three operations of the bus interface (R50). -/
inductive Transaction
  | reset
  | read (a : Access)
  | write (a : Access)
  deriving DecidableEq, Repr

/-- The places at which rows of the opcode table are tried, in the order of R57 and R153. At most one
row of a slot fires for one key: the three rows of window 0 have a slot each, because two or three of
them can fire in one access. -/
inductive Slot
  | rst | io2 | unused | ram1 | ram2 | ram3 | blk1 | blk2 | blk3 | blk5 | reg
  deriving DecidableEq, Repr

/-- The slots in ascending `fields.order` (R57; 60_exceptions.md R153). -/
def Slot.inOrder : List Slot :=
  [.rst, .io2, .unused, .ram1, .ram2, .ram3, .blk1, .blk2, .blk3, .blk5, .reg]

/-- The rows of spec/opcode_table.json, in the table's order. The name is the mnemonic in camel case:
`rdRam2W1S0` is RD.RAM_2.W1.S0. -/
inductive Instr
  /-- RESET (R165) -/
  | reset
  /-- RD.ANY.IO2 (R59) -/
  | rdAnyIo2 (a : Access)
  /-- RD.UNUSED.ANY (R108) -/
  | rdUnusedAny (a : Access)
  /-- RD.START.W0.RAM1 (R91) -/
  | rdStartW0Ram1 (a : Access)
  /-- RD.START.W0.RAM2 (R91) -/
  | rdStartW0Ram2 (a : Access)
  /-- RD.START.W0.RAM3 (R91) -/
  | rdStartW0Ram3 (a : Access)
  /-- RD.START.W1 (R91) -/
  | rdStartW1 (a : Access)
  /-- RD.START.W2 (R91) -/
  | rdStartW2 (a : Access)
  /-- RD.START.W3 (R91) -/
  | rdStartW3 (a : Access)
  /-- RD.START.W5 (R92) -/
  | rdStartW5 (a : Access)
  /-- RD.START.REG1 (R93) -/
  | rdStartReg1 (a : Access)
  /-- RD.START.REG2 (R93) -/
  | rdStartReg2 (a : Access)
  /-- RD.FLASH.W0.RAM1 (R94) -/
  | rdFlashW0Ram1 (a : Access)
  /-- RD.FLASH.W0.RAM2 (R94) -/
  | rdFlashW0Ram2 (a : Access)
  /-- RD.FLASH.W0.RAM3 (R94) -/
  | rdFlashW0Ram3 (a : Access)
  /-- RD.FLASH.W1 (R106) -/
  | rdFlashW1 (a : Access)
  /-- RD.FLASH.W2 (R106) -/
  | rdFlashW2 (a : Access)
  /-- RD.FLASH.W3 (R106) -/
  | rdFlashW3 (a : Access)
  /-- RD.FLASH.W5 (R106) -/
  | rdFlashW5 (a : Access)
  /-- RD.FLASH.REG1 (R109) -/
  | rdFlashReg1 (a : Access)
  /-- RD.FLASH.REG2 (R109) -/
  | rdFlashReg2 (a : Access)
  /-- RD.SUPER_ROM.W0.RAM1 (R94) -/
  | rdSuperRomW0Ram1 (a : Access)
  /-- RD.SUPER_ROM.W0.RAM2 (R94) -/
  | rdSuperRomW0Ram2 (a : Access)
  /-- RD.SUPER_ROM.W0.RAM3 (R94) -/
  | rdSuperRomW0Ram3 (a : Access)
  /-- RD.SUPER_ROM.W1 (R96) -/
  | rdSuperRomW1 (a : Access)
  /-- RD.SUPER_ROM.W2 (R96) -/
  | rdSuperRomW2 (a : Access)
  /-- RD.SUPER_ROM.W3 (R96) -/
  | rdSuperRomW3 (a : Access)
  /-- RD.SUPER_ROM.W5 (R96) -/
  | rdSuperRomW5 (a : Access)
  /-- RD.SUPER_ROM.REG1 (R109) -/
  | rdSuperRomReg1 (a : Access)
  /-- RD.SUPER_ROM.REG2 (R109) -/
  | rdSuperRomReg2 (a : Access)
  /-- RD.RAM_ROM.W0.RAM1 (R94) -/
  | rdRamRomW0Ram1 (a : Access)
  /-- RD.RAM_ROM.W0.RAM2 (R94) -/
  | rdRamRomW0Ram2 (a : Access)
  /-- RD.RAM_ROM.W0.RAM3 (R94) -/
  | rdRamRomW0Ram3 (a : Access)
  /-- RD.RAM_ROM.W1.S0 (R104) -/
  | rdRamRomW1S0 (a : Access)
  /-- RD.RAM_ROM.W1.S1 (R104) -/
  | rdRamRomW1S1 (a : Access)
  /-- RD.RAM_ROM.W2.S0 (R104) -/
  | rdRamRomW2S0 (a : Access)
  /-- RD.RAM_ROM.W2.S1 (R104) -/
  | rdRamRomW2S1 (a : Access)
  /-- RD.RAM_ROM.W3.S0 (R104) -/
  | rdRamRomW3S0 (a : Access)
  /-- RD.RAM_ROM.W3.S1 (R104) -/
  | rdRamRomW3S1 (a : Access)
  /-- RD.RAM_ROM.W5.S0 (R104) -/
  | rdRamRomW5S0 (a : Access)
  /-- RD.RAM_ROM.W5.S1 (R104) -/
  | rdRamRomW5S1 (a : Access)
  /-- RD.RAM_ROM.REG1 (R109) -/
  | rdRamRomReg1 (a : Access)
  /-- RD.RAM_ROM.REG2 (R109) -/
  | rdRamRomReg2 (a : Access)
  /-- RD.RAM_1.W0.RAM1 (R94) -/
  | rdRam1W0Ram1 (a : Access)
  /-- RD.RAM_1.W0.RAM2 (R94) -/
  | rdRam1W0Ram2 (a : Access)
  /-- RD.RAM_1.W0.RAM3 (R94) -/
  | rdRam1W0Ram3 (a : Access)
  /-- RD.RAM_1.W1 (R98) -/
  | rdRam1W1 (a : Access)
  /-- RD.RAM_1.W2 (R98) -/
  | rdRam1W2 (a : Access)
  /-- RD.RAM_1.W3 (R98) -/
  | rdRam1W3 (a : Access)
  /-- RD.RAM_1.W5 (R98) -/
  | rdRam1W5 (a : Access)
  /-- RD.RAM_1.REG1 (R109) -/
  | rdRam1Reg1 (a : Access)
  /-- RD.RAM_1.REG2 (R109) -/
  | rdRam1Reg2 (a : Access)
  /-- RD.SUPER_RAM.W0.RAM1 (R94) -/
  | rdSuperRamW0Ram1 (a : Access)
  /-- RD.SUPER_RAM.W0.RAM2 (R94) -/
  | rdSuperRamW0Ram2 (a : Access)
  /-- RD.SUPER_RAM.W0.RAM3 (R94) -/
  | rdSuperRamW0Ram3 (a : Access)
  /-- RD.SUPER_RAM.W1 (R102) -/
  | rdSuperRamW1 (a : Access)
  /-- RD.SUPER_RAM.W2 (R102) -/
  | rdSuperRamW2 (a : Access)
  /-- RD.SUPER_RAM.W3 (R102) -/
  | rdSuperRamW3 (a : Access)
  /-- RD.SUPER_RAM.W5 (R102) -/
  | rdSuperRamW5 (a : Access)
  /-- RD.SUPER_RAM.REG1 (R109) -/
  | rdSuperRamReg1 (a : Access)
  /-- RD.SUPER_RAM.REG2 (R109) -/
  | rdSuperRamReg2 (a : Access)
  /-- RD.RAM_2.W0.RAM1 (R94) -/
  | rdRam2W0Ram1 (a : Access)
  /-- RD.RAM_2.W0.RAM2 (R94) -/
  | rdRam2W0Ram2 (a : Access)
  /-- RD.RAM_2.W0.RAM3 (R94) -/
  | rdRam2W0Ram3 (a : Access)
  /-- RD.RAM_2.W1.S0 (R100) -/
  | rdRam2W1S0 (a : Access)
  /-- RD.RAM_2.W1.S1 (R100) -/
  | rdRam2W1S1 (a : Access)
  /-- RD.RAM_2.W2.S0 (R100) -/
  | rdRam2W2S0 (a : Access)
  /-- RD.RAM_2.W2.S1 (R100) -/
  | rdRam2W2S1 (a : Access)
  /-- RD.RAM_2.W3.S0 (R100) -/
  | rdRam2W3S0 (a : Access)
  /-- RD.RAM_2.W3.S1 (R100) -/
  | rdRam2W3S1 (a : Access)
  /-- RD.RAM_2.W5.S0 (R100) -/
  | rdRam2W5S0 (a : Access)
  /-- RD.RAM_2.W5.S1 (R100) -/
  | rdRam2W5S1 (a : Access)
  /-- RD.RAM_2.REG1 (R109) -/
  | rdRam2Reg1 (a : Access)
  /-- RD.RAM_2.REG2 (R109) -/
  | rdRam2Reg2 (a : Access)
  /-- WR.ANY.IO2 (R59) -/
  | wrAnyIo2 (a : Access)
  /-- WR.UNUSED.ANY (R138) -/
  | wrUnusedAny (a : Access)
  /-- WR.START.W0.RAM1 (R121) -/
  | wrStartW0Ram1 (a : Access)
  /-- WR.START.W0.RAM2 (R121) -/
  | wrStartW0Ram2 (a : Access)
  /-- WR.START.W0.RAM3 (R121) -/
  | wrStartW0Ram3 (a : Access)
  /-- WR.START.W1 (R121) -/
  | wrStartW1 (a : Access)
  /-- WR.START.W2 (R121) -/
  | wrStartW2 (a : Access)
  /-- WR.START.W3 (R121) -/
  | wrStartW3 (a : Access)
  /-- WR.START.W5 (R122) -/
  | wrStartW5 (a : Access)
  /-- WR.START.REG1 (R123) -/
  | wrStartReg1 (a : Access)
  /-- WR.START.REG2 (R123) -/
  | wrStartReg2 (a : Access)
  /-- WR.FLASH.W0.RAM1 (R124) -/
  | wrFlashW0Ram1 (a : Access)
  /-- WR.FLASH.W0.RAM2 (R124) -/
  | wrFlashW0Ram2 (a : Access)
  /-- WR.FLASH.W0.RAM3 (R124) -/
  | wrFlashW0Ram3 (a : Access)
  /-- WR.FLASH.W1 (R136) -/
  | wrFlashW1 (a : Access)
  /-- WR.FLASH.W2 (R136) -/
  | wrFlashW2 (a : Access)
  /-- WR.FLASH.W3 (R136) -/
  | wrFlashW3 (a : Access)
  /-- WR.FLASH.W5 (R136) -/
  | wrFlashW5 (a : Access)
  /-- WR.FLASH.REG1 (R139) -/
  | wrFlashReg1 (a : Access)
  /-- WR.FLASH.REG2 (R139) -/
  | wrFlashReg2 (a : Access)
  /-- WR.SUPER_ROM.W0.RAM1 (R124) -/
  | wrSuperRomW0Ram1 (a : Access)
  /-- WR.SUPER_ROM.W0.RAM2 (R124) -/
  | wrSuperRomW0Ram2 (a : Access)
  /-- WR.SUPER_ROM.W0.RAM3 (R124) -/
  | wrSuperRomW0Ram3 (a : Access)
  /-- WR.SUPER_ROM.W1 (R126) -/
  | wrSuperRomW1 (a : Access)
  /-- WR.SUPER_ROM.W2 (R126) -/
  | wrSuperRomW2 (a : Access)
  /-- WR.SUPER_ROM.W3 (R126) -/
  | wrSuperRomW3 (a : Access)
  /-- WR.SUPER_ROM.W5 (R126) -/
  | wrSuperRomW5 (a : Access)
  /-- WR.SUPER_ROM.REG1 (R139) -/
  | wrSuperRomReg1 (a : Access)
  /-- WR.SUPER_ROM.REG2 (R139) -/
  | wrSuperRomReg2 (a : Access)
  /-- WR.RAM_ROM.W0.RAM1 (R124) -/
  | wrRamRomW0Ram1 (a : Access)
  /-- WR.RAM_ROM.W0.RAM2 (R124) -/
  | wrRamRomW0Ram2 (a : Access)
  /-- WR.RAM_ROM.W0.RAM3 (R124) -/
  | wrRamRomW0Ram3 (a : Access)
  /-- WR.RAM_ROM.W1.S0 (R134) -/
  | wrRamRomW1S0 (a : Access)
  /-- WR.RAM_ROM.W1.S1 (R134) -/
  | wrRamRomW1S1 (a : Access)
  /-- WR.RAM_ROM.W2.S0 (R134) -/
  | wrRamRomW2S0 (a : Access)
  /-- WR.RAM_ROM.W2.S1 (R134) -/
  | wrRamRomW2S1 (a : Access)
  /-- WR.RAM_ROM.W3.S0 (R134) -/
  | wrRamRomW3S0 (a : Access)
  /-- WR.RAM_ROM.W3.S1 (R134) -/
  | wrRamRomW3S1 (a : Access)
  /-- WR.RAM_ROM.W5.S0 (R134) -/
  | wrRamRomW5S0 (a : Access)
  /-- WR.RAM_ROM.W5.S1 (R134) -/
  | wrRamRomW5S1 (a : Access)
  /-- WR.RAM_ROM.REG1 (R139) -/
  | wrRamRomReg1 (a : Access)
  /-- WR.RAM_ROM.REG2 (R139) -/
  | wrRamRomReg2 (a : Access)
  /-- WR.RAM_1.W0.RAM1 (R124) -/
  | wrRam1W0Ram1 (a : Access)
  /-- WR.RAM_1.W0.RAM2 (R124) -/
  | wrRam1W0Ram2 (a : Access)
  /-- WR.RAM_1.W0.RAM3 (R124) -/
  | wrRam1W0Ram3 (a : Access)
  /-- WR.RAM_1.W1 (R128) -/
  | wrRam1W1 (a : Access)
  /-- WR.RAM_1.W2 (R128) -/
  | wrRam1W2 (a : Access)
  /-- WR.RAM_1.W3 (R128) -/
  | wrRam1W3 (a : Access)
  /-- WR.RAM_1.W5 (R128) -/
  | wrRam1W5 (a : Access)
  /-- WR.RAM_1.REG1 (R139) -/
  | wrRam1Reg1 (a : Access)
  /-- WR.RAM_1.REG2 (R139) -/
  | wrRam1Reg2 (a : Access)
  /-- WR.SUPER_RAM.W0.RAM1 (R124) -/
  | wrSuperRamW0Ram1 (a : Access)
  /-- WR.SUPER_RAM.W0.RAM2 (R124) -/
  | wrSuperRamW0Ram2 (a : Access)
  /-- WR.SUPER_RAM.W0.RAM3 (R124) -/
  | wrSuperRamW0Ram3 (a : Access)
  /-- WR.SUPER_RAM.W1 (R132) -/
  | wrSuperRamW1 (a : Access)
  /-- WR.SUPER_RAM.W2 (R132) -/
  | wrSuperRamW2 (a : Access)
  /-- WR.SUPER_RAM.W3 (R132) -/
  | wrSuperRamW3 (a : Access)
  /-- WR.SUPER_RAM.W5 (R132) -/
  | wrSuperRamW5 (a : Access)
  /-- WR.SUPER_RAM.REG1 (R139) -/
  | wrSuperRamReg1 (a : Access)
  /-- WR.SUPER_RAM.REG2 (R139) -/
  | wrSuperRamReg2 (a : Access)
  /-- WR.RAM_2.W0.RAM1 (R124) -/
  | wrRam2W0Ram1 (a : Access)
  /-- WR.RAM_2.W0.RAM2 (R124) -/
  | wrRam2W0Ram2 (a : Access)
  /-- WR.RAM_2.W0.RAM3 (R124) -/
  | wrRam2W0Ram3 (a : Access)
  /-- WR.RAM_2.W1.S0 (R130) -/
  | wrRam2W1S0 (a : Access)
  /-- WR.RAM_2.W1.S1 (R130) -/
  | wrRam2W1S1 (a : Access)
  /-- WR.RAM_2.W2.S0 (R130) -/
  | wrRam2W2S0 (a : Access)
  /-- WR.RAM_2.W2.S1 (R130) -/
  | wrRam2W2S1 (a : Access)
  /-- WR.RAM_2.W3.S0 (R130) -/
  | wrRam2W3S0 (a : Access)
  /-- WR.RAM_2.W3.S1 (R130) -/
  | wrRam2W3S1 (a : Access)
  /-- WR.RAM_2.W5.S0 (R130) -/
  | wrRam2W5S0 (a : Access)
  /-- WR.RAM_2.W5.S1 (R130) -/
  | wrRam2W5S1 (a : Access)
  /-- WR.RAM_2.REG1 (R139) -/
  | wrRam2Reg1 (a : Access)
  /-- WR.RAM_2.REG2 (R139) -/
  | wrRam2Reg2 (a : Access)
  deriving DecidableEq, Repr

/-- The access an instruction carries; RESET has no operand (70_reset_and_hazards.md R165). -/
def Instr.access : Instr → Option Access
  | .reset => none
  | .rdAnyIo2 a => some a
  | .rdUnusedAny a => some a
  | .rdStartW0Ram1 a => some a
  | .rdStartW0Ram2 a => some a
  | .rdStartW0Ram3 a => some a
  | .rdStartW1 a => some a
  | .rdStartW2 a => some a
  | .rdStartW3 a => some a
  | .rdStartW5 a => some a
  | .rdStartReg1 a => some a
  | .rdStartReg2 a => some a
  | .rdFlashW0Ram1 a => some a
  | .rdFlashW0Ram2 a => some a
  | .rdFlashW0Ram3 a => some a
  | .rdFlashW1 a => some a
  | .rdFlashW2 a => some a
  | .rdFlashW3 a => some a
  | .rdFlashW5 a => some a
  | .rdFlashReg1 a => some a
  | .rdFlashReg2 a => some a
  | .rdSuperRomW0Ram1 a => some a
  | .rdSuperRomW0Ram2 a => some a
  | .rdSuperRomW0Ram3 a => some a
  | .rdSuperRomW1 a => some a
  | .rdSuperRomW2 a => some a
  | .rdSuperRomW3 a => some a
  | .rdSuperRomW5 a => some a
  | .rdSuperRomReg1 a => some a
  | .rdSuperRomReg2 a => some a
  | .rdRamRomW0Ram1 a => some a
  | .rdRamRomW0Ram2 a => some a
  | .rdRamRomW0Ram3 a => some a
  | .rdRamRomW1S0 a => some a
  | .rdRamRomW1S1 a => some a
  | .rdRamRomW2S0 a => some a
  | .rdRamRomW2S1 a => some a
  | .rdRamRomW3S0 a => some a
  | .rdRamRomW3S1 a => some a
  | .rdRamRomW5S0 a => some a
  | .rdRamRomW5S1 a => some a
  | .rdRamRomReg1 a => some a
  | .rdRamRomReg2 a => some a
  | .rdRam1W0Ram1 a => some a
  | .rdRam1W0Ram2 a => some a
  | .rdRam1W0Ram3 a => some a
  | .rdRam1W1 a => some a
  | .rdRam1W2 a => some a
  | .rdRam1W3 a => some a
  | .rdRam1W5 a => some a
  | .rdRam1Reg1 a => some a
  | .rdRam1Reg2 a => some a
  | .rdSuperRamW0Ram1 a => some a
  | .rdSuperRamW0Ram2 a => some a
  | .rdSuperRamW0Ram3 a => some a
  | .rdSuperRamW1 a => some a
  | .rdSuperRamW2 a => some a
  | .rdSuperRamW3 a => some a
  | .rdSuperRamW5 a => some a
  | .rdSuperRamReg1 a => some a
  | .rdSuperRamReg2 a => some a
  | .rdRam2W0Ram1 a => some a
  | .rdRam2W0Ram2 a => some a
  | .rdRam2W0Ram3 a => some a
  | .rdRam2W1S0 a => some a
  | .rdRam2W1S1 a => some a
  | .rdRam2W2S0 a => some a
  | .rdRam2W2S1 a => some a
  | .rdRam2W3S0 a => some a
  | .rdRam2W3S1 a => some a
  | .rdRam2W5S0 a => some a
  | .rdRam2W5S1 a => some a
  | .rdRam2Reg1 a => some a
  | .rdRam2Reg2 a => some a
  | .wrAnyIo2 a => some a
  | .wrUnusedAny a => some a
  | .wrStartW0Ram1 a => some a
  | .wrStartW0Ram2 a => some a
  | .wrStartW0Ram3 a => some a
  | .wrStartW1 a => some a
  | .wrStartW2 a => some a
  | .wrStartW3 a => some a
  | .wrStartW5 a => some a
  | .wrStartReg1 a => some a
  | .wrStartReg2 a => some a
  | .wrFlashW0Ram1 a => some a
  | .wrFlashW0Ram2 a => some a
  | .wrFlashW0Ram3 a => some a
  | .wrFlashW1 a => some a
  | .wrFlashW2 a => some a
  | .wrFlashW3 a => some a
  | .wrFlashW5 a => some a
  | .wrFlashReg1 a => some a
  | .wrFlashReg2 a => some a
  | .wrSuperRomW0Ram1 a => some a
  | .wrSuperRomW0Ram2 a => some a
  | .wrSuperRomW0Ram3 a => some a
  | .wrSuperRomW1 a => some a
  | .wrSuperRomW2 a => some a
  | .wrSuperRomW3 a => some a
  | .wrSuperRomW5 a => some a
  | .wrSuperRomReg1 a => some a
  | .wrSuperRomReg2 a => some a
  | .wrRamRomW0Ram1 a => some a
  | .wrRamRomW0Ram2 a => some a
  | .wrRamRomW0Ram3 a => some a
  | .wrRamRomW1S0 a => some a
  | .wrRamRomW1S1 a => some a
  | .wrRamRomW2S0 a => some a
  | .wrRamRomW2S1 a => some a
  | .wrRamRomW3S0 a => some a
  | .wrRamRomW3S1 a => some a
  | .wrRamRomW5S0 a => some a
  | .wrRamRomW5S1 a => some a
  | .wrRamRomReg1 a => some a
  | .wrRamRomReg2 a => some a
  | .wrRam1W0Ram1 a => some a
  | .wrRam1W0Ram2 a => some a
  | .wrRam1W0Ram3 a => some a
  | .wrRam1W1 a => some a
  | .wrRam1W2 a => some a
  | .wrRam1W3 a => some a
  | .wrRam1W5 a => some a
  | .wrRam1Reg1 a => some a
  | .wrRam1Reg2 a => some a
  | .wrSuperRamW0Ram1 a => some a
  | .wrSuperRamW0Ram2 a => some a
  | .wrSuperRamW0Ram3 a => some a
  | .wrSuperRamW1 a => some a
  | .wrSuperRamW2 a => some a
  | .wrSuperRamW3 a => some a
  | .wrSuperRamW5 a => some a
  | .wrSuperRamReg1 a => some a
  | .wrSuperRamReg2 a => some a
  | .wrRam2W0Ram1 a => some a
  | .wrRam2W0Ram2 a => some a
  | .wrRam2W0Ram3 a => some a
  | .wrRam2W1S0 a => some a
  | .wrRam2W1S1 a => some a
  | .wrRam2W2S0 a => some a
  | .wrRam2W2S1 a => some a
  | .wrRam2W3S0 a => some a
  | .wrRam2W3S1 a => some a
  | .wrRam2W5S0 a => some a
  | .wrRam2W5S1 a => some a
  | .wrRam2Reg1 a => some a
  | .wrRam2Reg2 a => some a

/-- The slot at which an instruction's row is tried. -/
def Instr.slot : Instr → Slot
  | .reset => .rst
  | .rdAnyIo2 _ => .io2
  | .rdUnusedAny _ => .unused
  | .rdStartW0Ram1 _ => .ram1
  | .rdStartW0Ram2 _ => .ram2
  | .rdStartW0Ram3 _ => .ram3
  | .rdStartW1 _ => .blk1
  | .rdStartW2 _ => .blk2
  | .rdStartW3 _ => .blk3
  | .rdStartW5 _ => .blk5
  | .rdStartReg1 _ => .reg
  | .rdStartReg2 _ => .reg
  | .rdFlashW0Ram1 _ => .ram1
  | .rdFlashW0Ram2 _ => .ram2
  | .rdFlashW0Ram3 _ => .ram3
  | .rdFlashW1 _ => .blk1
  | .rdFlashW2 _ => .blk2
  | .rdFlashW3 _ => .blk3
  | .rdFlashW5 _ => .blk5
  | .rdFlashReg1 _ => .reg
  | .rdFlashReg2 _ => .reg
  | .rdSuperRomW0Ram1 _ => .ram1
  | .rdSuperRomW0Ram2 _ => .ram2
  | .rdSuperRomW0Ram3 _ => .ram3
  | .rdSuperRomW1 _ => .blk1
  | .rdSuperRomW2 _ => .blk2
  | .rdSuperRomW3 _ => .blk3
  | .rdSuperRomW5 _ => .blk5
  | .rdSuperRomReg1 _ => .reg
  | .rdSuperRomReg2 _ => .reg
  | .rdRamRomW0Ram1 _ => .ram1
  | .rdRamRomW0Ram2 _ => .ram2
  | .rdRamRomW0Ram3 _ => .ram3
  | .rdRamRomW1S0 _ => .blk1
  | .rdRamRomW1S1 _ => .blk1
  | .rdRamRomW2S0 _ => .blk2
  | .rdRamRomW2S1 _ => .blk2
  | .rdRamRomW3S0 _ => .blk3
  | .rdRamRomW3S1 _ => .blk3
  | .rdRamRomW5S0 _ => .blk5
  | .rdRamRomW5S1 _ => .blk5
  | .rdRamRomReg1 _ => .reg
  | .rdRamRomReg2 _ => .reg
  | .rdRam1W0Ram1 _ => .ram1
  | .rdRam1W0Ram2 _ => .ram2
  | .rdRam1W0Ram3 _ => .ram3
  | .rdRam1W1 _ => .blk1
  | .rdRam1W2 _ => .blk2
  | .rdRam1W3 _ => .blk3
  | .rdRam1W5 _ => .blk5
  | .rdRam1Reg1 _ => .reg
  | .rdRam1Reg2 _ => .reg
  | .rdSuperRamW0Ram1 _ => .ram1
  | .rdSuperRamW0Ram2 _ => .ram2
  | .rdSuperRamW0Ram3 _ => .ram3
  | .rdSuperRamW1 _ => .blk1
  | .rdSuperRamW2 _ => .blk2
  | .rdSuperRamW3 _ => .blk3
  | .rdSuperRamW5 _ => .blk5
  | .rdSuperRamReg1 _ => .reg
  | .rdSuperRamReg2 _ => .reg
  | .rdRam2W0Ram1 _ => .ram1
  | .rdRam2W0Ram2 _ => .ram2
  | .rdRam2W0Ram3 _ => .ram3
  | .rdRam2W1S0 _ => .blk1
  | .rdRam2W1S1 _ => .blk1
  | .rdRam2W2S0 _ => .blk2
  | .rdRam2W2S1 _ => .blk2
  | .rdRam2W3S0 _ => .blk3
  | .rdRam2W3S1 _ => .blk3
  | .rdRam2W5S0 _ => .blk5
  | .rdRam2W5S1 _ => .blk5
  | .rdRam2Reg1 _ => .reg
  | .rdRam2Reg2 _ => .reg
  | .wrAnyIo2 _ => .io2
  | .wrUnusedAny _ => .unused
  | .wrStartW0Ram1 _ => .ram1
  | .wrStartW0Ram2 _ => .ram2
  | .wrStartW0Ram3 _ => .ram3
  | .wrStartW1 _ => .blk1
  | .wrStartW2 _ => .blk2
  | .wrStartW3 _ => .blk3
  | .wrStartW5 _ => .blk5
  | .wrStartReg1 _ => .reg
  | .wrStartReg2 _ => .reg
  | .wrFlashW0Ram1 _ => .ram1
  | .wrFlashW0Ram2 _ => .ram2
  | .wrFlashW0Ram3 _ => .ram3
  | .wrFlashW1 _ => .blk1
  | .wrFlashW2 _ => .blk2
  | .wrFlashW3 _ => .blk3
  | .wrFlashW5 _ => .blk5
  | .wrFlashReg1 _ => .reg
  | .wrFlashReg2 _ => .reg
  | .wrSuperRomW0Ram1 _ => .ram1
  | .wrSuperRomW0Ram2 _ => .ram2
  | .wrSuperRomW0Ram3 _ => .ram3
  | .wrSuperRomW1 _ => .blk1
  | .wrSuperRomW2 _ => .blk2
  | .wrSuperRomW3 _ => .blk3
  | .wrSuperRomW5 _ => .blk5
  | .wrSuperRomReg1 _ => .reg
  | .wrSuperRomReg2 _ => .reg
  | .wrRamRomW0Ram1 _ => .ram1
  | .wrRamRomW0Ram2 _ => .ram2
  | .wrRamRomW0Ram3 _ => .ram3
  | .wrRamRomW1S0 _ => .blk1
  | .wrRamRomW1S1 _ => .blk1
  | .wrRamRomW2S0 _ => .blk2
  | .wrRamRomW2S1 _ => .blk2
  | .wrRamRomW3S0 _ => .blk3
  | .wrRamRomW3S1 _ => .blk3
  | .wrRamRomW5S0 _ => .blk5
  | .wrRamRomW5S1 _ => .blk5
  | .wrRamRomReg1 _ => .reg
  | .wrRamRomReg2 _ => .reg
  | .wrRam1W0Ram1 _ => .ram1
  | .wrRam1W0Ram2 _ => .ram2
  | .wrRam1W0Ram3 _ => .ram3
  | .wrRam1W1 _ => .blk1
  | .wrRam1W2 _ => .blk2
  | .wrRam1W3 _ => .blk3
  | .wrRam1W5 _ => .blk5
  | .wrRam1Reg1 _ => .reg
  | .wrRam1Reg2 _ => .reg
  | .wrSuperRamW0Ram1 _ => .ram1
  | .wrSuperRamW0Ram2 _ => .ram2
  | .wrSuperRamW0Ram3 _ => .ram3
  | .wrSuperRamW1 _ => .blk1
  | .wrSuperRamW2 _ => .blk2
  | .wrSuperRamW3 _ => .blk3
  | .wrSuperRamW5 _ => .blk5
  | .wrSuperRamReg1 _ => .reg
  | .wrSuperRamReg2 _ => .reg
  | .wrRam2W0Ram1 _ => .ram1
  | .wrRam2W0Ram2 _ => .ram2
  | .wrRam2W0Ram3 _ => .ram3
  | .wrRam2W1S0 _ => .blk1
  | .wrRam2W1S1 _ => .blk1
  | .wrRam2W2S0 _ => .blk2
  | .wrRam2W2S1 _ => .blk2
  | .wrRam2W3S0 _ => .blk3
  | .wrRam2W3S1 _ => .blk3
  | .wrRam2W5S0 _ => .blk5
  | .wrRam2W5S1 _ => .blk5
  | .wrRam2Reg1 _ => .reg
  | .wrRam2Reg2 _ => .reg

/-! ### The textual commands -/

/-- The names of the select signals, as the braces of a command list them (30_encoding.md R61). -/
inductive Signal
  | ram1 | ram2 | ram3 | blk1 | blk2 | blk3 | blk5 | io2 | io3
  deriving DecidableEq, Repr

/-- A command of the textual syntax (R61). A READ's `d_in` may be left out. -/
inductive Command
  | rst
  | rd (off : BusOffset) (signals : List Signal) (dIn : Option Byte)
  | wr (off : BusOffset) (signals : List Signal) (value : Byte)
  deriving DecidableEq, Repr

/-- The pseudo-operations (R62). -/
inductive PseudoOp
  | unlock (v : Byte)
  | relock
  | getM
  | getV
  | setM (v : Byte)
  | setV (v : Byte)
  | setMode (mode : Mode) (low5 : BitVec 5)
  deriving DecidableEq, Repr

end Sys2Proof
end

