-- ==== Sys2Proof/Machine/Operands.lean ====
section
/-! DEFINITION. Operand assembly (30_encoding.md R63), the fields of the two control registers
(10_state.md R12 to R18), the mode field (30_encoding.md R55) and the AddressTranslator
(40_address_translator.md R70), as functions of bytes and of the access. -/

namespace Sys2Proof.Machine

/-! ### The mode field -/

/-- The 3-bit mode field of `M` (10_state.md R12): `M[7:5]` under the default MODE_POS. -/
def modeCode (c : Config) (m : Byte) : BitVec 3 :=
  m.extractLsb' c.modePos 3

/-- MODE_ENC read backwards (30_encoding.md R55); the value that names no mode is UNUSED (R56). -/
def modeOfCode (e : ModeEnc) (x : BitVec 3) : Mode :=
  if x = e.start then .start
  else if x = e.flash then .flash
  else if x = e.superRom then .superRom
  else if x = e.ramRom then .ramRom
  else if x = e.ram1 then .ram1
  else if x = e.superRam then .superRam
  else if x = e.ram2 then .ram2
  else .unused

/-- A value of the mode field that names no mode (R56): the greatest such value, 7 by default. -/
def unusedCode (e : ModeEnc) : BitVec 3 :=
  ([7, 6, 5, 4, 3, 2, 1, 0].find? fun x => modeOfCode e x = .unused).getD 7

/-- MODE_ENC (R55), extended to UNUSED by a value that names no mode (R56). -/
def codeOfMode (e : ModeEnc) : Mode → BitVec 3
  | .start    => e.start
  | .flash    => e.flash
  | .superRom => e.superRom
  | .ramRom   => e.ramRom
  | .ram1     => e.ram1
  | .superRam => e.superRam
  | .ram2     => e.ram2
  | .unused   => unusedCode e

/-- `mode(M)` (R55, R56). -/
def modeOf (c : Config) (m : Byte) : Mode :=
  modeOfCode c.modeEnc (modeCode c m)

/-! ### The other fields of `M` and the fields of `V` -/

/-- `BANK = M[3:0]` (10_state.md R14), as the 7-bit bank argument of the AddressTranslator. -/
def bankField (m : Byte) : BitVec 7 :=
  (m.extractLsb' 0 4).setWidth 7

/-- The per-window select bit `s(w)` (10_state.md R15). -/
def selectBit (c : Config) (m : Byte) (w : Window) : Bool :=
  m.getLsbD (c.selBit.pos w)

/-- The position of a region's bit in `V` (10_state.md R16). -/
def visPos (c : Config) : Region → Nat
  | .w0    => c.visBit0
  | .win w => c.visBit.pos w
  | .reg   => c.visBitReg

/-- `vis(w)` (10_state.md R16): the region's bit of `V` does not have the hiding value. -/
def visible (c : Config) (v : Byte) (r : Region) : Bool :=
  v.getLsbD (visPos c r) != c.hideLevel

/-- `SWAP = V[6:5] = (V >> 5) & 0b11` (10_state.md R17). -/
def swapField (v : Byte) : BitVec 2 :=
  ((v >>> swapShift) &&& swapMask).setWidth 2

/-! ### The AddressTranslator -/

/-- `T(bank, block, off)` (40_address_translator.md R70): the bank cut to BANK_MASK (R72), the block
XORed with SWAP (R75), and the three fields composed, modulo the store size. -/
def translate (c : Config) (v : Byte) (bank : BitVec 7) (block : BitVec 2) (off : BitVec 13) :
    PhysAddr :=
  ((bank &&& c.bankMask).setWidth 19 <<< bankShift)
    ||| ((block ^^^ swapField v).setWidth 19 <<< blockShift)
    ||| off.setWidth 19

/-- `blk(w)` (30_encoding.md R63): windows 1, 2, 3, 5 are blocks 0, 1, 2, 3. -/
def blockOf : Window → BitVec 2
  | .w1 => 0
  | .w2 => 1
  | .w3 => 2
  | .w5 => 3

/-! ### Operands taken from the access -/

/-- `off13 = offset & 0x1FFF` (30_encoding.md R63). -/
def off13 (a : Access) : BitVec 13 :=
  (a.off &&& off13Mask).setWidth 13

/-- `regmatch` (R63; 41_register_port.md R81). -/
def regMatch (a : Access) : Bool :=
  (a.off &&& regMatchMask) == regMatchValue

/-- `regno = offset[0]` (R63): false selects register 1 (`M`), true register 2 (`V`). -/
def regNo (a : Access) : Bool :=
  a.off.getLsbD regIndexBit

/-- `win0` (R63): any of the three fixed-RAM signals. -/
def selectsW0 (a : Access) : Bool :=
  a.sel.ram1 || a.sel.ram2 || a.sel.ram3

/-- The select signal of window 1, 2, 3 or 5 (30_encoding.md R51). -/
def selectsWindow (a : Access) : Window → Bool
  | .w1 => a.sel.blk1
  | .w2 => a.sel.blk2
  | .w3 => a.sel.blk3
  | .w5 => a.sel.blk5

/-- The register window's select signal, chosen by REG_SIGNAL (R51, D7). -/
def selectsReg (c : Config) (a : Access) : Bool :=
  match c.regSignal with
  | .io3 => a.sel.io3
  | .io2 => a.sel.io2

/-- The I/O signal that no rule examines (R51, R59, D7): io2 under the default REG_SIGNAL. -/
def selectsIgnored (c : Config) (a : Access) : Bool :=
  match c.regSignal with
  | .io3 => a.sel.io2
  | .io2 => a.sel.io3

/-- `regsel` (41_register_port.md R81). -/
def regSel (c : Config) (a : Access) : Bool :=
  selectsReg c a && regMatch a

/-- The gate part of `granted` (41_register_port.md R82): START asks for an unlocked latch, UNUSED
refuses, every other mode asks for a visible register window. -/
def regGate (c : Config) (m v : Byte) (latch : Bool) : Bool :=
  match modeOf c m with
  | .start  => !latch
  | .unused => false
  | _       => visible c v .reg

/-- Whether window 5 answers in mode START (42_mode_router_read.md R92 corner case c; D9). -/
def startW5Open (c : Config) (v : Byte) : Bool :=
  visible c v (.win .w5) || !c.startW5VisGated

end Sys2Proof.Machine
end

