-- ==== Sys2Proof/WellFormed.lean ====
section
/-! DEFINITION. Well-formed instructions: an instruction carries an access that meets the operand
conditions of its own row (the bits of `TW` that the row's mask fixes): its select signal is asserted,
and for a register row the offset matches and names that register. The state conditions of a row
(mode, hide bits, select bit, latch) are no part of the syntax: they belong to the meanings. -/

namespace Sys2Proof

open Machine (regMatch regNo)

/-- The operand conditions of a register row (30_encoding.md R63; 41_register_port.md R81). -/
def Access.namesRegister (a : Access) (second : Bool) : Bool :=
  a.sel.io3 && regMatch a && regNo a == second

/-- Well-formedness, row by row (spec/opcode_table.json, the `TW` part of each row's mask). -/
def Instr.wellFormed : Instr → Bool
  | .reset => true
  | .rdAnyIo2 a => a.sel.io2
  | .rdUnusedAny _ => true
  | .rdStartW0Ram1 a => a.sel.ram1
  | .rdStartW0Ram2 a => a.sel.ram2
  | .rdStartW0Ram3 a => a.sel.ram3
  | .rdStartW1 a => a.sel.blk1
  | .rdStartW2 a => a.sel.blk2
  | .rdStartW3 a => a.sel.blk3
  | .rdStartW5 a => a.sel.blk5
  | .rdStartReg1 a => a.namesRegister false
  | .rdStartReg2 a => a.namesRegister true
  | .rdFlashW0Ram1 a => a.sel.ram1
  | .rdFlashW0Ram2 a => a.sel.ram2
  | .rdFlashW0Ram3 a => a.sel.ram3
  | .rdFlashW1 a => a.sel.blk1
  | .rdFlashW2 a => a.sel.blk2
  | .rdFlashW3 a => a.sel.blk3
  | .rdFlashW5 a => a.sel.blk5
  | .rdFlashReg1 a => a.namesRegister false
  | .rdFlashReg2 a => a.namesRegister true
  | .rdSuperRomW0Ram1 a => a.sel.ram1
  | .rdSuperRomW0Ram2 a => a.sel.ram2
  | .rdSuperRomW0Ram3 a => a.sel.ram3
  | .rdSuperRomW1 a => a.sel.blk1
  | .rdSuperRomW2 a => a.sel.blk2
  | .rdSuperRomW3 a => a.sel.blk3
  | .rdSuperRomW5 a => a.sel.blk5
  | .rdSuperRomReg1 a => a.namesRegister false
  | .rdSuperRomReg2 a => a.namesRegister true
  | .rdRamRomW0Ram1 a => a.sel.ram1
  | .rdRamRomW0Ram2 a => a.sel.ram2
  | .rdRamRomW0Ram3 a => a.sel.ram3
  | .rdRamRomW1S0 a => a.sel.blk1
  | .rdRamRomW1S1 a => a.sel.blk1
  | .rdRamRomW2S0 a => a.sel.blk2
  | .rdRamRomW2S1 a => a.sel.blk2
  | .rdRamRomW3S0 a => a.sel.blk3
  | .rdRamRomW3S1 a => a.sel.blk3
  | .rdRamRomW5S0 a => a.sel.blk5
  | .rdRamRomW5S1 a => a.sel.blk5
  | .rdRamRomReg1 a => a.namesRegister false
  | .rdRamRomReg2 a => a.namesRegister true
  | .rdRam1W0Ram1 a => a.sel.ram1
  | .rdRam1W0Ram2 a => a.sel.ram2
  | .rdRam1W0Ram3 a => a.sel.ram3
  | .rdRam1W1 a => a.sel.blk1
  | .rdRam1W2 a => a.sel.blk2
  | .rdRam1W3 a => a.sel.blk3
  | .rdRam1W5 a => a.sel.blk5
  | .rdRam1Reg1 a => a.namesRegister false
  | .rdRam1Reg2 a => a.namesRegister true
  | .rdSuperRamW0Ram1 a => a.sel.ram1
  | .rdSuperRamW0Ram2 a => a.sel.ram2
  | .rdSuperRamW0Ram3 a => a.sel.ram3
  | .rdSuperRamW1 a => a.sel.blk1
  | .rdSuperRamW2 a => a.sel.blk2
  | .rdSuperRamW3 a => a.sel.blk3
  | .rdSuperRamW5 a => a.sel.blk5
  | .rdSuperRamReg1 a => a.namesRegister false
  | .rdSuperRamReg2 a => a.namesRegister true
  | .rdRam2W0Ram1 a => a.sel.ram1
  | .rdRam2W0Ram2 a => a.sel.ram2
  | .rdRam2W0Ram3 a => a.sel.ram3
  | .rdRam2W1S0 a => a.sel.blk1
  | .rdRam2W1S1 a => a.sel.blk1
  | .rdRam2W2S0 a => a.sel.blk2
  | .rdRam2W2S1 a => a.sel.blk2
  | .rdRam2W3S0 a => a.sel.blk3
  | .rdRam2W3S1 a => a.sel.blk3
  | .rdRam2W5S0 a => a.sel.blk5
  | .rdRam2W5S1 a => a.sel.blk5
  | .rdRam2Reg1 a => a.namesRegister false
  | .rdRam2Reg2 a => a.namesRegister true
  | .wrAnyIo2 a => a.sel.io2
  | .wrUnusedAny _ => true
  | .wrStartW0Ram1 a => a.sel.ram1
  | .wrStartW0Ram2 a => a.sel.ram2
  | .wrStartW0Ram3 a => a.sel.ram3
  | .wrStartW1 a => a.sel.blk1
  | .wrStartW2 a => a.sel.blk2
  | .wrStartW3 a => a.sel.blk3
  | .wrStartW5 a => a.sel.blk5
  | .wrStartReg1 a => a.namesRegister false
  | .wrStartReg2 a => a.namesRegister true
  | .wrFlashW0Ram1 a => a.sel.ram1
  | .wrFlashW0Ram2 a => a.sel.ram2
  | .wrFlashW0Ram3 a => a.sel.ram3
  | .wrFlashW1 a => a.sel.blk1
  | .wrFlashW2 a => a.sel.blk2
  | .wrFlashW3 a => a.sel.blk3
  | .wrFlashW5 a => a.sel.blk5
  | .wrFlashReg1 a => a.namesRegister false
  | .wrFlashReg2 a => a.namesRegister true
  | .wrSuperRomW0Ram1 a => a.sel.ram1
  | .wrSuperRomW0Ram2 a => a.sel.ram2
  | .wrSuperRomW0Ram3 a => a.sel.ram3
  | .wrSuperRomW1 a => a.sel.blk1
  | .wrSuperRomW2 a => a.sel.blk2
  | .wrSuperRomW3 a => a.sel.blk3
  | .wrSuperRomW5 a => a.sel.blk5
  | .wrSuperRomReg1 a => a.namesRegister false
  | .wrSuperRomReg2 a => a.namesRegister true
  | .wrRamRomW0Ram1 a => a.sel.ram1
  | .wrRamRomW0Ram2 a => a.sel.ram2
  | .wrRamRomW0Ram3 a => a.sel.ram3
  | .wrRamRomW1S0 a => a.sel.blk1
  | .wrRamRomW1S1 a => a.sel.blk1
  | .wrRamRomW2S0 a => a.sel.blk2
  | .wrRamRomW2S1 a => a.sel.blk2
  | .wrRamRomW3S0 a => a.sel.blk3
  | .wrRamRomW3S1 a => a.sel.blk3
  | .wrRamRomW5S0 a => a.sel.blk5
  | .wrRamRomW5S1 a => a.sel.blk5
  | .wrRamRomReg1 a => a.namesRegister false
  | .wrRamRomReg2 a => a.namesRegister true
  | .wrRam1W0Ram1 a => a.sel.ram1
  | .wrRam1W0Ram2 a => a.sel.ram2
  | .wrRam1W0Ram3 a => a.sel.ram3
  | .wrRam1W1 a => a.sel.blk1
  | .wrRam1W2 a => a.sel.blk2
  | .wrRam1W3 a => a.sel.blk3
  | .wrRam1W5 a => a.sel.blk5
  | .wrRam1Reg1 a => a.namesRegister false
  | .wrRam1Reg2 a => a.namesRegister true
  | .wrSuperRamW0Ram1 a => a.sel.ram1
  | .wrSuperRamW0Ram2 a => a.sel.ram2
  | .wrSuperRamW0Ram3 a => a.sel.ram3
  | .wrSuperRamW1 a => a.sel.blk1
  | .wrSuperRamW2 a => a.sel.blk2
  | .wrSuperRamW3 a => a.sel.blk3
  | .wrSuperRamW5 a => a.sel.blk5
  | .wrSuperRamReg1 a => a.namesRegister false
  | .wrSuperRamReg2 a => a.namesRegister true
  | .wrRam2W0Ram1 a => a.sel.ram1
  | .wrRam2W0Ram2 a => a.sel.ram2
  | .wrRam2W0Ram3 a => a.sel.ram3
  | .wrRam2W1S0 a => a.sel.blk1
  | .wrRam2W1S1 a => a.sel.blk1
  | .wrRam2W2S0 a => a.sel.blk2
  | .wrRam2W2S1 a => a.sel.blk2
  | .wrRam2W3S0 a => a.sel.blk3
  | .wrRam2W3S1 a => a.sel.blk3
  | .wrRam2W5S0 a => a.sel.blk5
  | .wrRam2W5S1 a => a.sel.blk5
  | .wrRam2Reg1 a => a.namesRegister false
  | .wrRam2Reg2 a => a.namesRegister true

end Sys2Proof
end

