-- ==== Sys2Proof/Decode.lean ====
section
/-! DEFINITION. The transaction word `TW` and the decode key `K` (30_encoding.md R54, R57), the
decoder (from the rules R90, R120 and the row conditions of R57, R58), and the encoder (from the match
and mask words of spec/opcode_table.json). The decoder and the encoder come from different parts of
spec/, so that their agreement says something about both. -/

namespace Sys2Proof

open Machine

/-! ### Reading words -/

/-- The access fields of a transaction word (30_encoding.md R54). -/
def twAccess (t : TW) : Access where
  off  := t.extractLsb' 8 16
  sel  := {
    ram1 := t.getLsbD 24
    ram2 := t.getLsbD 25
    ram3 := t.getLsbD 26
    blk1 := t.getLsbD 27
    blk2 := t.getLsbD 28
    blk3 := t.getLsbD 29
    blk5 := t.getLsbD 30
    io2  := t.getLsbD 31
    io3  := t.getLsbD 32 }
  data := t.extractLsb' 0 8

/-- The operation a transaction word stands for (R54): RST, then RW. -/
def twTransaction (t : TW) : Transaction :=
  if t.getLsbD 34 then .reset
  else if t.getLsbD 33 then .write (twAccess t)
  else .read (twAccess t)

/-- A decode key taken apart (R57). -/
structure KeyView where
  tx    : Transaction
  m     : Byte
  v     : Byte
  latch : Bool
  deriving DecidableEq, Repr

/-- `K[34:0] = TW`, `K[42:35] = M`, `K[50:43] = V`, `K[51] = L` (R57). -/
def keyView (k : Key) : KeyView where
  tx    := twTransaction (k.extractLsb' 0 35)
  m     := k.extractLsb' 35 8
  v     := k.extractLsb' 43 8
  latch := k.getLsbD 51

/-- The key of a transaction word in a state with these registers (R57). -/
def makeKey (t : TW) (m v : Byte) (latch : Bool) : Key :=
  t.setWidth 52 ||| (m.setWidth 52 <<< 35) ||| (v.setWidth 52 <<< 43)
    ||| ((BitVec.ofBool latch).setWidth 52 <<< 51)

/-! ### The decoder -/

/-- The row `RD.<mode>.W0.RAM1` of a mode (R94; R91 for START). -/
def rowOfReadRam1 (a : Access) : Mode → Option Instr
  | .start => some (.rdStartW0Ram1 a)
  | .flash => some (.rdFlashW0Ram1 a)
  | .superRom => some (.rdSuperRomW0Ram1 a)
  | .ramRom => some (.rdRamRomW0Ram1 a)
  | .ram1 => some (.rdRam1W0Ram1 a)
  | .superRam => some (.rdSuperRamW0Ram1 a)
  | .ram2 => some (.rdRam2W0Ram1 a)
  | .unused => none

/-- The row `RD.<mode>.W0.RAM2` of a mode (R94; R91 for START). -/
def rowOfReadRam2 (a : Access) : Mode → Option Instr
  | .start => some (.rdStartW0Ram2 a)
  | .flash => some (.rdFlashW0Ram2 a)
  | .superRom => some (.rdSuperRomW0Ram2 a)
  | .ramRom => some (.rdRamRomW0Ram2 a)
  | .ram1 => some (.rdRam1W0Ram2 a)
  | .superRam => some (.rdSuperRamW0Ram2 a)
  | .ram2 => some (.rdRam2W0Ram2 a)
  | .unused => none

/-- The row `RD.<mode>.W0.RAM3` of a mode (R94; R91 for START). -/
def rowOfReadRam3 (a : Access) : Mode → Option Instr
  | .start => some (.rdStartW0Ram3 a)
  | .flash => some (.rdFlashW0Ram3 a)
  | .superRom => some (.rdSuperRomW0Ram3 a)
  | .ramRom => some (.rdRamRomW0Ram3 a)
  | .ram1 => some (.rdRam1W0Ram3 a)
  | .superRam => some (.rdSuperRamW0Ram3 a)
  | .ram2 => some (.rdRam2W0Ram3 a)
  | .unused => none

/-- The row `RD.<mode>.W<w>` of a mode and a window, split by the select bit in RAM_2 and RAM_ROM
(R58; R91, R92 for START). -/
def rowOfReadWindow (a : Access) (selected : Bool) : Mode → Window → Option Instr
  | .start, .w1 => some (.rdStartW1 a)
  | .start, .w2 => some (.rdStartW2 a)
  | .start, .w3 => some (.rdStartW3 a)
  | .start, .w5 => some (.rdStartW5 a)
  | .flash, .w1 => some (.rdFlashW1 a)
  | .flash, .w2 => some (.rdFlashW2 a)
  | .flash, .w3 => some (.rdFlashW3 a)
  | .flash, .w5 => some (.rdFlashW5 a)
  | .superRom, .w1 => some (.rdSuperRomW1 a)
  | .superRom, .w2 => some (.rdSuperRomW2 a)
  | .superRom, .w3 => some (.rdSuperRomW3 a)
  | .superRom, .w5 => some (.rdSuperRomW5 a)
  | .ramRom, .w1 => some (if selected then .rdRamRomW1S1 a else .rdRamRomW1S0 a)
  | .ramRom, .w2 => some (if selected then .rdRamRomW2S1 a else .rdRamRomW2S0 a)
  | .ramRom, .w3 => some (if selected then .rdRamRomW3S1 a else .rdRamRomW3S0 a)
  | .ramRom, .w5 => some (if selected then .rdRamRomW5S1 a else .rdRamRomW5S0 a)
  | .ram1, .w1 => some (.rdRam1W1 a)
  | .ram1, .w2 => some (.rdRam1W2 a)
  | .ram1, .w3 => some (.rdRam1W3 a)
  | .ram1, .w5 => some (.rdRam1W5 a)
  | .superRam, .w1 => some (.rdSuperRamW1 a)
  | .superRam, .w2 => some (.rdSuperRamW2 a)
  | .superRam, .w3 => some (.rdSuperRamW3 a)
  | .superRam, .w5 => some (.rdSuperRamW5 a)
  | .ram2, .w1 => some (if selected then .rdRam2W1S1 a else .rdRam2W1S0 a)
  | .ram2, .w2 => some (if selected then .rdRam2W2S1 a else .rdRam2W2S0 a)
  | .ram2, .w3 => some (if selected then .rdRam2W3S1 a else .rdRam2W3S0 a)
  | .ram2, .w5 => some (if selected then .rdRam2W5S1 a else .rdRam2W5S0 a)
  | .unused, _ => none

/-- The row `RD.<mode>.REG1` or `.REG2` of a mode (41_register_port.md R83, R84). -/
def rowOfReadReg (a : Access) (second : Bool) : Mode → Option Instr
  | .start => some (if second then .rdStartReg2 a else .rdStartReg1 a)
  | .flash => some (if second then .rdFlashReg2 a else .rdFlashReg1 a)
  | .superRom => some (if second then .rdSuperRomReg2 a else .rdSuperRomReg1 a)
  | .ramRom => some (if second then .rdRamRomReg2 a else .rdRamRomReg1 a)
  | .ram1 => some (if second then .rdRam1Reg2 a else .rdRam1Reg1 a)
  | .superRam => some (if second then .rdSuperRamReg2 a else .rdSuperRamReg1 a)
  | .ram2 => some (if second then .rdRam2Reg2 a else .rdRam2Reg1 a)
  | .unused => none

/-- The row `WR.<mode>.W0.RAM1` of a mode (R124; R121 for START). -/
def rowOfWriteRam1 (a : Access) : Mode → Option Instr
  | .start => some (.wrStartW0Ram1 a)
  | .flash => some (.wrFlashW0Ram1 a)
  | .superRom => some (.wrSuperRomW0Ram1 a)
  | .ramRom => some (.wrRamRomW0Ram1 a)
  | .ram1 => some (.wrRam1W0Ram1 a)
  | .superRam => some (.wrSuperRamW0Ram1 a)
  | .ram2 => some (.wrRam2W0Ram1 a)
  | .unused => none

/-- The row `WR.<mode>.W0.RAM2` of a mode (R124; R121 for START). -/
def rowOfWriteRam2 (a : Access) : Mode → Option Instr
  | .start => some (.wrStartW0Ram2 a)
  | .flash => some (.wrFlashW0Ram2 a)
  | .superRom => some (.wrSuperRomW0Ram2 a)
  | .ramRom => some (.wrRamRomW0Ram2 a)
  | .ram1 => some (.wrRam1W0Ram2 a)
  | .superRam => some (.wrSuperRamW0Ram2 a)
  | .ram2 => some (.wrRam2W0Ram2 a)
  | .unused => none

/-- The row `WR.<mode>.W0.RAM3` of a mode (R124; R121 for START). -/
def rowOfWriteRam3 (a : Access) : Mode → Option Instr
  | .start => some (.wrStartW0Ram3 a)
  | .flash => some (.wrFlashW0Ram3 a)
  | .superRom => some (.wrSuperRomW0Ram3 a)
  | .ramRom => some (.wrRamRomW0Ram3 a)
  | .ram1 => some (.wrRam1W0Ram3 a)
  | .superRam => some (.wrSuperRamW0Ram3 a)
  | .ram2 => some (.wrRam2W0Ram3 a)
  | .unused => none

/-- The row `WR.<mode>.W<w>` of a mode and a window, split by the select bit in RAM_2 and RAM_ROM
(R58; R121, R122 for START). -/
def rowOfWriteWindow (a : Access) (selected : Bool) : Mode → Window → Option Instr
  | .start, .w1 => some (.wrStartW1 a)
  | .start, .w2 => some (.wrStartW2 a)
  | .start, .w3 => some (.wrStartW3 a)
  | .start, .w5 => some (.wrStartW5 a)
  | .flash, .w1 => some (.wrFlashW1 a)
  | .flash, .w2 => some (.wrFlashW2 a)
  | .flash, .w3 => some (.wrFlashW3 a)
  | .flash, .w5 => some (.wrFlashW5 a)
  | .superRom, .w1 => some (.wrSuperRomW1 a)
  | .superRom, .w2 => some (.wrSuperRomW2 a)
  | .superRom, .w3 => some (.wrSuperRomW3 a)
  | .superRom, .w5 => some (.wrSuperRomW5 a)
  | .ramRom, .w1 => some (if selected then .wrRamRomW1S1 a else .wrRamRomW1S0 a)
  | .ramRom, .w2 => some (if selected then .wrRamRomW2S1 a else .wrRamRomW2S0 a)
  | .ramRom, .w3 => some (if selected then .wrRamRomW3S1 a else .wrRamRomW3S0 a)
  | .ramRom, .w5 => some (if selected then .wrRamRomW5S1 a else .wrRamRomW5S0 a)
  | .ram1, .w1 => some (.wrRam1W1 a)
  | .ram1, .w2 => some (.wrRam1W2 a)
  | .ram1, .w3 => some (.wrRam1W3 a)
  | .ram1, .w5 => some (.wrRam1W5 a)
  | .superRam, .w1 => some (.wrSuperRamW1 a)
  | .superRam, .w2 => some (.wrSuperRamW2 a)
  | .superRam, .w3 => some (.wrSuperRamW3 a)
  | .superRam, .w5 => some (.wrSuperRamW5 a)
  | .ram2, .w1 => some (if selected then .wrRam2W1S1 a else .wrRam2W1S0 a)
  | .ram2, .w2 => some (if selected then .wrRam2W2S1 a else .wrRam2W2S0 a)
  | .ram2, .w3 => some (if selected then .wrRam2W3S1 a else .wrRam2W3S0 a)
  | .ram2, .w5 => some (if selected then .wrRam2W5S1 a else .wrRam2W5S0 a)
  | .unused, _ => none

/-- The row `WR.<mode>.REG1` or `.REG2` of a mode (41_register_port.md R83, R84). -/
def rowOfWriteReg (a : Access) (second : Bool) : Mode → Option Instr
  | .start => some (if second then .wrStartReg2 a else .wrStartReg1 a)
  | .flash => some (if second then .wrFlashReg2 a else .wrFlashReg1 a)
  | .superRom => some (if second then .wrSuperRomReg2 a else .wrSuperRomReg1 a)
  | .ramRom => some (if second then .wrRamRomReg2 a else .wrRamRomReg1 a)
  | .ram1 => some (if second then .wrRam1Reg2 a else .wrRam1Reg1 a)
  | .superRam => some (if second then .wrSuperRamReg2 a else .wrSuperRamReg1 a)
  | .ram2 => some (if second then .wrRam2Reg2 a else .wrRam2Reg1 a)
  | .unused => none

/-- Whether the rows of window 0 are open: in START they match without a hide bit (their action is
none, R91, R121); in UNUSED there is no row; elsewhere `vis(0)` (R94, R124). -/
def window0Open (c : Config) (m v : Byte) : Bool :=
  match modeOf c m with
  | .start  => true
  | .unused => false
  | _       => visible c v .w0

/-- Whether the row of a window is open: START's windows 1, 2, 3 match without a hide bit (R91, R121),
its window 5 under R92's condition; in UNUSED there is no row; elsewhere `vis(w)` (R95, R125). -/
def windowOpen (c : Config) (m v : Byte) (w : Window) : Bool :=
  match modeOf c m with
  | .start  => if w = .w5 then startW5Open c v else true
  | .unused => false
  | _       => visible c v (.win w)

/-- The row of a READ that fires at a slot, if any (42_mode_router_read.md R90; R57). -/
def decodeRead (c : Config) (s : Slot) (a : Access) (m v : Byte) (latch : Bool) : Option Instr :=
  match s with
  | .rst    => none
  | .io2    => if selectsIgnored c a then some (.rdAnyIo2 a) else none
  | .unused => if modeOf c m = .unused then some (.rdUnusedAny a) else none
  | .ram1   => if a.sel.ram1 && window0Open c m v then rowOfReadRam1 a (modeOf c m) else none
  | .ram2   => if a.sel.ram2 && window0Open c m v then rowOfReadRam2 a (modeOf c m) else none
  | .ram3   => if a.sel.ram3 && window0Open c m v then rowOfReadRam3 a (modeOf c m) else none
  | .blk1   => if a.sel.blk1 && windowOpen c m v .w1 then
                 rowOfReadWindow a (selectBit c m .w1) (modeOf c m) .w1 else none
  | .blk2   => if a.sel.blk2 && windowOpen c m v .w2 then
                 rowOfReadWindow a (selectBit c m .w2) (modeOf c m) .w2 else none
  | .blk3   => if a.sel.blk3 && windowOpen c m v .w3 then
                 rowOfReadWindow a (selectBit c m .w3) (modeOf c m) .w3 else none
  | .blk5   => if a.sel.blk5 && windowOpen c m v .w5 then
                 rowOfReadWindow a (selectBit c m .w5) (modeOf c m) .w5 else none
  | .reg    => if regSel c a && regGate c m v latch then
                 rowOfReadReg a (regNo a) (modeOf c m) else none

/-- The row of a WRITE that fires at a slot, if any (43_mode_router_write.md R120; R57). -/
def decodeWrite (c : Config) (s : Slot) (a : Access) (m v : Byte) (latch : Bool) : Option Instr :=
  match s with
  | .rst    => none
  | .io2    => if selectsIgnored c a then some (.wrAnyIo2 a) else none
  | .unused => if modeOf c m = .unused then some (.wrUnusedAny a) else none
  | .ram1   => if a.sel.ram1 && window0Open c m v then rowOfWriteRam1 a (modeOf c m) else none
  | .ram2   => if a.sel.ram2 && window0Open c m v then rowOfWriteRam2 a (modeOf c m) else none
  | .ram3   => if a.sel.ram3 && window0Open c m v then rowOfWriteRam3 a (modeOf c m) else none
  | .blk1   => if a.sel.blk1 && windowOpen c m v .w1 then
                 rowOfWriteWindow a (selectBit c m .w1) (modeOf c m) .w1 else none
  | .blk2   => if a.sel.blk2 && windowOpen c m v .w2 then
                 rowOfWriteWindow a (selectBit c m .w2) (modeOf c m) .w2 else none
  | .blk3   => if a.sel.blk3 && windowOpen c m v .w3 then
                 rowOfWriteWindow a (selectBit c m .w3) (modeOf c m) .w3 else none
  | .blk5   => if a.sel.blk5 && windowOpen c m v .w5 then
                 rowOfWriteWindow a (selectBit c m .w5) (modeOf c m) .w5 else none
  | .reg    => if regSel c a && regGate c m v latch then
                 rowOfWriteReg a (regNo a) (modeOf c m) else none

/-- The row that fires at a slot for a key, if any (30_encoding.md R57). A transaction word with RST
set fires the row RESET and no other: "every other field is then ignored" (R54). -/
def decodeSlot (c : Config) (s : Slot) (k : KeyView) : Option Instr :=
  match k.tx with
  | .reset   => if s = .rst then some .reset else none
  | .read a  => decodeRead c s a k.m k.v k.latch
  | .write a => decodeWrite c s a k.m k.v k.latch

/-- Every row that fires for a key, in order; the key is not rebuilt between rows (that is the
machine's: Sys2Proof/Machine/Transact.lean). -/
def decodeRows (c : Config) (k : KeyView) : List Instr :=
  Slot.inOrder.filterMap fun s => decodeSlot c s k

/-- Why a word is no instruction. -/
inductive DecodeError
  /-- A bit above bit 51 is set: a decode key has 52 bits (R57). Safe. -/
  | keyTooWide
  /-- No row fires: the access is not driven, or writes nothing (R59, R110, R140). Safe. -/
  | noRow
  deriving DecidableEq, Repr

/-- The first instruction of a key given as a number of `nbits` bits, or the reason there is none. -/
def decodeKey (c : Config) (nbits w : Nat) : Except DecodeError Instr :=
  if w % 2 ^ nbits < 2 ^ 52 then
    match decodeRows c (keyView (BitVec.ofNat 52 (w % 2 ^ nbits))) with
    | []     => .error .noRow
    | i :: _ => .ok i
  else .error .keyTooWide

/-- The instruction the decoder reads from the bits `w` of a table word, under the defaults of R7. -/
def decodeTableWord (nbits w : Nat) : Option Instr :=
  match decodeKey defaultConfig nbits w with
  | .ok i    => some i
  | .error _ => none

/-! ### The encoder -/

/-- One bit of a transaction word. -/
def twBit (b : Bool) (position : Nat) : TW :=
  (BitVec.ofBool b).setWidth 35 <<< position

/-- The nine select bits of a transaction word (30_encoding.md R54). -/
def selectsWord (sel : Selects) : TW :=
  twBit sel.ram1 24 ||| twBit sel.ram2 25 ||| twBit sel.ram3 26 ||| twBit sel.blk1 27
    ||| twBit sel.blk2 28 ||| twBit sel.blk3 29 ||| twBit sel.blk5 30 ||| twBit sel.io2 31
    ||| twBit sel.io3 32

/-- The `TW` bits of an access, RST and RW clear (R54). -/
def accessWord (a : Access) : TW :=
  a.data.setWidth 35 ||| (a.off.setWidth 35 <<< 8) ||| selectsWord a.sel

/-- The transaction word of an operation (R54); the ignored fields of RESET are zero (R61). -/
def transactionWord : Transaction → TW
  | .reset   => 0x400000000
  | .read a  => accessWord a
  | .write a => 0x200000000 ||| accessWord a

/-- A row of spec/opcode_table.json: its `match` and `mask` over `K`, its `fields.order`, and the mode
its mode bits stand for, where it has any. -/
structure Row where
  pattern : Key
  mask    : Key
  order   : Nat
  mode    : Option Mode
  deriving DecidableEq, Repr

/-- The opcode table (30_encoding.md R57, R58). -/
def Instr.row : Instr → Row
  | .reset => ⟨0x0000400000000, 0x0000400000000, 0, none⟩
  | .rdAnyIo2 _ => ⟨0x0000080000000, 0x0000680000000, 0, none⟩
  | .rdUnusedAny _ => ⟨0x0070000000000, 0x0070600000000, 0, some .unused⟩
  | .rdStartW0Ram1 _ => ⟨0x0000001000000, 0x0070601000000, 1, some .start⟩
  | .rdStartW0Ram2 _ => ⟨0x0000002000000, 0x0070602000000, 1, some .start⟩
  | .rdStartW0Ram3 _ => ⟨0x0000004000000, 0x0070604000000, 1, some .start⟩
  | .rdStartW1 _ => ⟨0x0000008000000, 0x0070608000000, 2, some .start⟩
  | .rdStartW2 _ => ⟨0x0000010000000, 0x0070610000000, 3, some .start⟩
  | .rdStartW3 _ => ⟨0x0000020000000, 0x0070620000000, 4, some .start⟩
  | .rdStartW5 _ => ⟨0x0000040000000, 0x0870640000000, 5, some .start⟩
  | .rdStartReg1 _ => ⟨0x00001001C0200, 0x80707001C0300, 6, some .start⟩
  | .rdStartReg2 _ => ⟨0x00001001C0300, 0x80707001C0300, 6, some .start⟩
  | .rdFlashW0Ram1 _ => ⟨0x0010001000000, 0x00F0601000000, 1, some .flash⟩
  | .rdFlashW0Ram2 _ => ⟨0x0010002000000, 0x00F0602000000, 1, some .flash⟩
  | .rdFlashW0Ram3 _ => ⟨0x0010004000000, 0x00F0604000000, 1, some .flash⟩
  | .rdFlashW1 _ => ⟨0x0010008000000, 0x0170608000000, 2, some .flash⟩
  | .rdFlashW2 _ => ⟨0x0010010000000, 0x0270610000000, 3, some .flash⟩
  | .rdFlashW3 _ => ⟨0x0010020000000, 0x0470620000000, 4, some .flash⟩
  | .rdFlashW5 _ => ⟨0x0010040000000, 0x0870640000000, 5, some .flash⟩
  | .rdFlashReg1 _ => ⟨0x00101001C0200, 0x40707001C0300, 6, some .flash⟩
  | .rdFlashReg2 _ => ⟨0x00101001C0300, 0x40707001C0300, 6, some .flash⟩
  | .rdSuperRomW0Ram1 _ => ⟨0x0020001000000, 0x00F0601000000, 1, some .superRom⟩
  | .rdSuperRomW0Ram2 _ => ⟨0x0020002000000, 0x00F0602000000, 1, some .superRom⟩
  | .rdSuperRomW0Ram3 _ => ⟨0x0020004000000, 0x00F0604000000, 1, some .superRom⟩
  | .rdSuperRomW1 _ => ⟨0x0020008000000, 0x0170608000000, 2, some .superRom⟩
  | .rdSuperRomW2 _ => ⟨0x0020010000000, 0x0270610000000, 3, some .superRom⟩
  | .rdSuperRomW3 _ => ⟨0x0020020000000, 0x0470620000000, 4, some .superRom⟩
  | .rdSuperRomW5 _ => ⟨0x0020040000000, 0x0870640000000, 5, some .superRom⟩
  | .rdSuperRomReg1 _ => ⟨0x00201001C0200, 0x40707001C0300, 6, some .superRom⟩
  | .rdSuperRomReg2 _ => ⟨0x00201001C0300, 0x40707001C0300, 6, some .superRom⟩
  | .rdRamRomW0Ram1 _ => ⟨0x0030001000000, 0x00F0601000000, 1, some .ramRom⟩
  | .rdRamRomW0Ram2 _ => ⟨0x0030002000000, 0x00F0602000000, 1, some .ramRom⟩
  | .rdRamRomW0Ram3 _ => ⟨0x0030004000000, 0x00F0604000000, 1, some .ramRom⟩
  | .rdRamRomW1S0 _ => ⟨0x0030008000000, 0x0171608000000, 2, some .ramRom⟩
  | .rdRamRomW1S1 _ => ⟨0x0031008000000, 0x0171608000000, 2, some .ramRom⟩
  | .rdRamRomW2S0 _ => ⟨0x0030010000000, 0x0272610000000, 3, some .ramRom⟩
  | .rdRamRomW2S1 _ => ⟨0x0032010000000, 0x0272610000000, 3, some .ramRom⟩
  | .rdRamRomW3S0 _ => ⟨0x0030020000000, 0x0474620000000, 4, some .ramRom⟩
  | .rdRamRomW3S1 _ => ⟨0x0034020000000, 0x0474620000000, 4, some .ramRom⟩
  | .rdRamRomW5S0 _ => ⟨0x0030040000000, 0x0878640000000, 5, some .ramRom⟩
  | .rdRamRomW5S1 _ => ⟨0x0038040000000, 0x0878640000000, 5, some .ramRom⟩
  | .rdRamRomReg1 _ => ⟨0x00301001C0200, 0x40707001C0300, 6, some .ramRom⟩
  | .rdRamRomReg2 _ => ⟨0x00301001C0300, 0x40707001C0300, 6, some .ramRom⟩
  | .rdRam1W0Ram1 _ => ⟨0x0040001000000, 0x00F0601000000, 1, some .ram1⟩
  | .rdRam1W0Ram2 _ => ⟨0x0040002000000, 0x00F0602000000, 1, some .ram1⟩
  | .rdRam1W0Ram3 _ => ⟨0x0040004000000, 0x00F0604000000, 1, some .ram1⟩
  | .rdRam1W1 _ => ⟨0x0040008000000, 0x0170608000000, 2, some .ram1⟩
  | .rdRam1W2 _ => ⟨0x0040010000000, 0x0270610000000, 3, some .ram1⟩
  | .rdRam1W3 _ => ⟨0x0040020000000, 0x0470620000000, 4, some .ram1⟩
  | .rdRam1W5 _ => ⟨0x0040040000000, 0x0870640000000, 5, some .ram1⟩
  | .rdRam1Reg1 _ => ⟨0x00401001C0200, 0x40707001C0300, 6, some .ram1⟩
  | .rdRam1Reg2 _ => ⟨0x00401001C0300, 0x40707001C0300, 6, some .ram1⟩
  | .rdSuperRamW0Ram1 _ => ⟨0x0050001000000, 0x00F0601000000, 1, some .superRam⟩
  | .rdSuperRamW0Ram2 _ => ⟨0x0050002000000, 0x00F0602000000, 1, some .superRam⟩
  | .rdSuperRamW0Ram3 _ => ⟨0x0050004000000, 0x00F0604000000, 1, some .superRam⟩
  | .rdSuperRamW1 _ => ⟨0x0050008000000, 0x0170608000000, 2, some .superRam⟩
  | .rdSuperRamW2 _ => ⟨0x0050010000000, 0x0270610000000, 3, some .superRam⟩
  | .rdSuperRamW3 _ => ⟨0x0050020000000, 0x0470620000000, 4, some .superRam⟩
  | .rdSuperRamW5 _ => ⟨0x0050040000000, 0x0870640000000, 5, some .superRam⟩
  | .rdSuperRamReg1 _ => ⟨0x00501001C0200, 0x40707001C0300, 6, some .superRam⟩
  | .rdSuperRamReg2 _ => ⟨0x00501001C0300, 0x40707001C0300, 6, some .superRam⟩
  | .rdRam2W0Ram1 _ => ⟨0x0060001000000, 0x00F0601000000, 1, some .ram2⟩
  | .rdRam2W0Ram2 _ => ⟨0x0060002000000, 0x00F0602000000, 1, some .ram2⟩
  | .rdRam2W0Ram3 _ => ⟨0x0060004000000, 0x00F0604000000, 1, some .ram2⟩
  | .rdRam2W1S0 _ => ⟨0x0060008000000, 0x0171608000000, 2, some .ram2⟩
  | .rdRam2W1S1 _ => ⟨0x0061008000000, 0x0171608000000, 2, some .ram2⟩
  | .rdRam2W2S0 _ => ⟨0x0060010000000, 0x0272610000000, 3, some .ram2⟩
  | .rdRam2W2S1 _ => ⟨0x0062010000000, 0x0272610000000, 3, some .ram2⟩
  | .rdRam2W3S0 _ => ⟨0x0060020000000, 0x0474620000000, 4, some .ram2⟩
  | .rdRam2W3S1 _ => ⟨0x0064020000000, 0x0474620000000, 4, some .ram2⟩
  | .rdRam2W5S0 _ => ⟨0x0060040000000, 0x0878640000000, 5, some .ram2⟩
  | .rdRam2W5S1 _ => ⟨0x0068040000000, 0x0878640000000, 5, some .ram2⟩
  | .rdRam2Reg1 _ => ⟨0x00601001C0200, 0x40707001C0300, 6, some .ram2⟩
  | .rdRam2Reg2 _ => ⟨0x00601001C0300, 0x40707001C0300, 6, some .ram2⟩
  | .wrAnyIo2 _ => ⟨0x0000280000000, 0x0000680000000, 0, none⟩
  | .wrUnusedAny _ => ⟨0x0070200000000, 0x0070600000000, 0, some .unused⟩
  | .wrStartW0Ram1 _ => ⟨0x0000201000000, 0x0070601000000, 1, some .start⟩
  | .wrStartW0Ram2 _ => ⟨0x0000202000000, 0x0070602000000, 1, some .start⟩
  | .wrStartW0Ram3 _ => ⟨0x0000204000000, 0x0070604000000, 1, some .start⟩
  | .wrStartW1 _ => ⟨0x0000208000000, 0x0070608000000, 2, some .start⟩
  | .wrStartW2 _ => ⟨0x0000210000000, 0x0070610000000, 3, some .start⟩
  | .wrStartW3 _ => ⟨0x0000220000000, 0x0070620000000, 4, some .start⟩
  | .wrStartW5 _ => ⟨0x0000240000000, 0x0870640000000, 5, some .start⟩
  | .wrStartReg1 _ => ⟨0x00003001C0200, 0x80707001C0300, 6, some .start⟩
  | .wrStartReg2 _ => ⟨0x00003001C0300, 0x80707001C0300, 6, some .start⟩
  | .wrFlashW0Ram1 _ => ⟨0x0010201000000, 0x00F0601000000, 1, some .flash⟩
  | .wrFlashW0Ram2 _ => ⟨0x0010202000000, 0x00F0602000000, 1, some .flash⟩
  | .wrFlashW0Ram3 _ => ⟨0x0010204000000, 0x00F0604000000, 1, some .flash⟩
  | .wrFlashW1 _ => ⟨0x0010208000000, 0x0170608000000, 2, some .flash⟩
  | .wrFlashW2 _ => ⟨0x0010210000000, 0x0270610000000, 3, some .flash⟩
  | .wrFlashW3 _ => ⟨0x0010220000000, 0x0470620000000, 4, some .flash⟩
  | .wrFlashW5 _ => ⟨0x0010240000000, 0x0870640000000, 5, some .flash⟩
  | .wrFlashReg1 _ => ⟨0x00103001C0200, 0x40707001C0300, 6, some .flash⟩
  | .wrFlashReg2 _ => ⟨0x00103001C0300, 0x40707001C0300, 6, some .flash⟩
  | .wrSuperRomW0Ram1 _ => ⟨0x0020201000000, 0x00F0601000000, 1, some .superRom⟩
  | .wrSuperRomW0Ram2 _ => ⟨0x0020202000000, 0x00F0602000000, 1, some .superRom⟩
  | .wrSuperRomW0Ram3 _ => ⟨0x0020204000000, 0x00F0604000000, 1, some .superRom⟩
  | .wrSuperRomW1 _ => ⟨0x0020208000000, 0x0170608000000, 2, some .superRom⟩
  | .wrSuperRomW2 _ => ⟨0x0020210000000, 0x0270610000000, 3, some .superRom⟩
  | .wrSuperRomW3 _ => ⟨0x0020220000000, 0x0470620000000, 4, some .superRom⟩
  | .wrSuperRomW5 _ => ⟨0x0020240000000, 0x0870640000000, 5, some .superRom⟩
  | .wrSuperRomReg1 _ => ⟨0x00203001C0200, 0x40707001C0300, 6, some .superRom⟩
  | .wrSuperRomReg2 _ => ⟨0x00203001C0300, 0x40707001C0300, 6, some .superRom⟩
  | .wrRamRomW0Ram1 _ => ⟨0x0030201000000, 0x00F0601000000, 1, some .ramRom⟩
  | .wrRamRomW0Ram2 _ => ⟨0x0030202000000, 0x00F0602000000, 1, some .ramRom⟩
  | .wrRamRomW0Ram3 _ => ⟨0x0030204000000, 0x00F0604000000, 1, some .ramRom⟩
  | .wrRamRomW1S0 _ => ⟨0x0030208000000, 0x0171608000000, 2, some .ramRom⟩
  | .wrRamRomW1S1 _ => ⟨0x0031208000000, 0x0171608000000, 2, some .ramRom⟩
  | .wrRamRomW2S0 _ => ⟨0x0030210000000, 0x0272610000000, 3, some .ramRom⟩
  | .wrRamRomW2S1 _ => ⟨0x0032210000000, 0x0272610000000, 3, some .ramRom⟩
  | .wrRamRomW3S0 _ => ⟨0x0030220000000, 0x0474620000000, 4, some .ramRom⟩
  | .wrRamRomW3S1 _ => ⟨0x0034220000000, 0x0474620000000, 4, some .ramRom⟩
  | .wrRamRomW5S0 _ => ⟨0x0030240000000, 0x0878640000000, 5, some .ramRom⟩
  | .wrRamRomW5S1 _ => ⟨0x0038240000000, 0x0878640000000, 5, some .ramRom⟩
  | .wrRamRomReg1 _ => ⟨0x00303001C0200, 0x40707001C0300, 6, some .ramRom⟩
  | .wrRamRomReg2 _ => ⟨0x00303001C0300, 0x40707001C0300, 6, some .ramRom⟩
  | .wrRam1W0Ram1 _ => ⟨0x0040201000000, 0x00F0601000000, 1, some .ram1⟩
  | .wrRam1W0Ram2 _ => ⟨0x0040202000000, 0x00F0602000000, 1, some .ram1⟩
  | .wrRam1W0Ram3 _ => ⟨0x0040204000000, 0x00F0604000000, 1, some .ram1⟩
  | .wrRam1W1 _ => ⟨0x0040208000000, 0x0170608000000, 2, some .ram1⟩
  | .wrRam1W2 _ => ⟨0x0040210000000, 0x0270610000000, 3, some .ram1⟩
  | .wrRam1W3 _ => ⟨0x0040220000000, 0x0470620000000, 4, some .ram1⟩
  | .wrRam1W5 _ => ⟨0x0040240000000, 0x0870640000000, 5, some .ram1⟩
  | .wrRam1Reg1 _ => ⟨0x00403001C0200, 0x40707001C0300, 6, some .ram1⟩
  | .wrRam1Reg2 _ => ⟨0x00403001C0300, 0x40707001C0300, 6, some .ram1⟩
  | .wrSuperRamW0Ram1 _ => ⟨0x0050201000000, 0x00F0601000000, 1, some .superRam⟩
  | .wrSuperRamW0Ram2 _ => ⟨0x0050202000000, 0x00F0602000000, 1, some .superRam⟩
  | .wrSuperRamW0Ram3 _ => ⟨0x0050204000000, 0x00F0604000000, 1, some .superRam⟩
  | .wrSuperRamW1 _ => ⟨0x0050208000000, 0x0170608000000, 2, some .superRam⟩
  | .wrSuperRamW2 _ => ⟨0x0050210000000, 0x0270610000000, 3, some .superRam⟩
  | .wrSuperRamW3 _ => ⟨0x0050220000000, 0x0470620000000, 4, some .superRam⟩
  | .wrSuperRamW5 _ => ⟨0x0050240000000, 0x0870640000000, 5, some .superRam⟩
  | .wrSuperRamReg1 _ => ⟨0x00503001C0200, 0x40707001C0300, 6, some .superRam⟩
  | .wrSuperRamReg2 _ => ⟨0x00503001C0300, 0x40707001C0300, 6, some .superRam⟩
  | .wrRam2W0Ram1 _ => ⟨0x0060201000000, 0x00F0601000000, 1, some .ram2⟩
  | .wrRam2W0Ram2 _ => ⟨0x0060202000000, 0x00F0602000000, 1, some .ram2⟩
  | .wrRam2W0Ram3 _ => ⟨0x0060204000000, 0x00F0604000000, 1, some .ram2⟩
  | .wrRam2W1S0 _ => ⟨0x0060208000000, 0x0171608000000, 2, some .ram2⟩
  | .wrRam2W1S1 _ => ⟨0x0061208000000, 0x0171608000000, 2, some .ram2⟩
  | .wrRam2W2S0 _ => ⟨0x0060210000000, 0x0272610000000, 3, some .ram2⟩
  | .wrRam2W2S1 _ => ⟨0x0062210000000, 0x0272610000000, 3, some .ram2⟩
  | .wrRam2W3S0 _ => ⟨0x0060220000000, 0x0474620000000, 4, some .ram2⟩
  | .wrRam2W3S1 _ => ⟨0x0064220000000, 0x0474620000000, 4, some .ram2⟩
  | .wrRam2W5S0 _ => ⟨0x0060240000000, 0x0878640000000, 5, some .ram2⟩
  | .wrRam2W5S1 _ => ⟨0x0068240000000, 0x0878640000000, 5, some .ram2⟩
  | .wrRam2Reg1 _ => ⟨0x00603001C0200, 0x40707001C0300, 6, some .ram2⟩
  | .wrRam2Reg2 _ => ⟨0x00603001C0300, 0x40707001C0300, 6, some .ram2⟩

/-- The bits of a key that hold the mode field under the default MODE_POS: `M[7:5] = K[42:40]`. -/
def modeFieldMask : Key := 0x0070000000000

/-- A row's match word under another MODE_ENC: R57, "a model with another MODE_ENC rewrites those three
bits from fields.mode". -/
def rowPattern (e : ModeEnc) (r : Row) : Key :=
  match r.mode with
  | none    => r.pattern
  | some md => (r.pattern &&& ~~~modeFieldMask) ||| ((codeOfMode e md).setWidth 52 <<< 40)

/-- The operand bits of an instruction. -/
def operandWord (i : Instr) : TW :=
  match i.access with
  | none   => 0
  | some a => accessWord a

/-- The key of an instruction under a given MODE_ENC: its row's match word with the operand bits. The
state bits that the row does not fix are zero. -/
def encodeWith (e : ModeEnc) (i : Instr) : Key :=
  rowPattern e i.row ||| (operandWord i).setWidth 52

/-- The key of an instruction under the default MODE_ENC. -/
def encode (i : Instr) : Key :=
  encodeWith defaultModeEnc i

/-- The transaction an instruction is a row of. -/
def instrTransaction (i : Instr) : Transaction :=
  match i.access with
  | none   => .reset
  | some a => if i.row.pattern.getLsbD 33 then .write a else .read a

end Sys2Proof
end

