-- ==== Sys2Proof/Machine/State.lean ====
section
/-! DEFINITION. The state of the block as plain data (10_state.md), its state after reset, and the
reasons a step can stop. -/

namespace Sys2Proof.Machine

/-- A byte store: (address, byte) pairs in one canonical form (Machine/Memory.lean, `memWf`). -/
abbrev Memory := List Host.Cell

/-- ROMS, the state of the external RomStore (10_state.md R21, R22). Spec/ leaves the device an
argument (D16); the constructor is that argument. -/
inductive Rom
  /-- Any device whatever: its state is the list of calls made to it, newest first, and its answers
  are the free value `Config.romAnswer` of that list (log entry 1). -/
  | external (history : List RomCall)
  /-- The instance ReadOnlyRom of R22: an image that ignores writes. -/
  | readOnly (image : Memory)
  /-- The instance ByteArrayRom of R22: an image that stores writes. -/
  | byteArray (image : Memory)
  deriving DecidableEq, Repr

/-- What a READ returns (30_encoding.md R53): `d_out` and `drv`. -/
structure ReadResult where
  d   : Byte
  drv : Bool
  deriving DecidableEq, Repr

/-- The state. `m`, `v`, `latch`, `ram` and `rom` are the block's (10_state.md R10, R11, R19, R20,
R22); `cfg`, `pending` and `out` are the model's own (log entries 2, 3, 4). -/
structure State where
  /-- The ModeRegister `M`, register 1 (R12, R13). -/
  m : Byte
  /-- The VisibilityRegister `V`, register 2 (R16, R18). -/
  v : Byte
  /-- The SecurityLatch `L`; `true` is locked (R19). -/
  latch : Bool
  /-- RamStore (R20). -/
  ram : Memory
  /-- The external RomStore (R21, R22). -/
  rom : Rom
  /-- The implementation parameters (00_scope.md R7); no step changes them. -/
  cfg : Config
  /-- The transaction words the driver has issued and the block has not answered, oldest first. -/
  pending : List TW
  /-- What the last operation returned: `none` for a WRITE or a RESET (R52), `some (d, drv)` for a
  READ (R53). -/
  out : Option ReadResult
  deriving DecidableEq, Repr

/-- Faults: there are none. "The block raises no exception, returns no error, and has no fault state"
(60_exceptions.md R150), so no constructor exists and no step can answer with one. -/
inductive Fault
  deriving DecidableEq, Repr

/-- Refusals. -/
inductive Refusal
  /-- An instruction without a meaning, raised by an arm of `exec` only. Safe. Every instruction has
  its meaning, so no arm raises it. -/
  | notModelled (mnemonic : String)
  deriving DecidableEq, Repr

/-- The outcome of a meaning and of a step. -/
abbrev Result := Host.Outcome State Fault Refusal

/-- The device as construction leaves it, for any contents of `M`, `V`, `L` (which R27 leaves
unspecified until the first RESET), any external device and any parameters: RamStore is zero
(70_reset_and_hazards.md R166). -/
def State.constructed (m v : Byte) (latch : Bool) (rom : Rom) (cfg : Config) : State where
  m       := m
  v       := v
  latch   := latch
  ram     := []
  rom     := rom
  cfg     := cfg
  pending := []
  out     := none

/-- The machine right after reset: "constructed, ROM image loaded, RESET done"
(70_reset_and_hazards.md R166; the values of 10_state.md R27), at first power-up, with an arbitrary
external device to which no call has been made, and the default parameters. -/
def State.reset : State where
  m       := resetM
  v       := resetV
  latch   := resetL
  ram     := []
  rom     := .external []
  cfg     := defaultConfig
  pending := []
  out     := none

end Sys2Proof.Machine
end

