-- ==== Sys2Proof/Machine/Flags.lean ====
section
/-! DEFINITION. The only flag, the SecurityLatch (10_state.md R19), what sets and clears it, and the
gate that reads it (41_register_port.md R82). -/

namespace Sys2Proof.Machine

/-- Lock: `L <- true` (42_mode_router_read.md R92). -/
def State.lock (s : State) : State :=
  { s with latch := true }

/-- Unlock: `L <- false` (43_mode_router_write.md R122). -/
def State.unlock (s : State) : State :=
  { s with latch := false }

/-- `granted` (41_register_port.md R82), in a state. -/
def State.granted (s : State) (a : Access) : Bool :=
  regSel s.cfg a && regGate s.cfg s.m s.v s.latch

end Sys2Proof.Machine
end

