-- ==== Sys2Proof/Machine/Memory.lean ====
section
/-! DEFINITION. Byte stores and the external RomStore: one read, one write, and the canonical form. -/

namespace Sys2Proof.Machine

/-- What a byte that nothing has written reads as: RamStore is "zero-initialized at allocation"
(10_state.md R20, R27). -/
def unlistedByte : Byte := 0x00

/-- The byte at an address (00_scope.md section 6, `RAM[a]`). -/
def memRead : Memory → Nat → Byte
  | [], _ => unlistedByte
  | (b, x) :: rest, a => if a = b then x else memRead rest a

/-- Store a byte at an address (00_scope.md section 6, `RamWrite`), keeping the canonical form: the
byte an unlisted address reads as is not listed. -/
def memWrite : Memory → Nat → Byte → Memory
  | [], a, x => if x = unlistedByte then [] else [(a, x)]
  | (b, y) :: rest, a, x =>
    if a < b then
      if x = unlistedByte then (b, y) :: rest else (a, x) :: (b, y) :: rest
    else if a = b then
      if x = unlistedByte then rest else (a, x) :: rest
    else (b, y) :: memWrite rest a x

/-- Every listed address is at least `low`, addresses rise strictly, lie inside the store (R20, R21:
512 KiB), and no listed byte is the one an unlisted address reads as. -/
def memWfFrom (low : Nat) : Memory → Bool
  | [] => true
  | (a, x) :: rest =>
    decide (low ≤ a) && decide (a < storeSize) && (x != unlistedByte) && memWfFrom (a + 1) rest

/-- The canonical form of a byte store. -/
def memWf (mem : Memory) : Bool :=
  memWfFrom 0 mem

/-- The canonical form of the external RomStore's image, where an instance has one. -/
def romWf : Rom → Bool
  | .external _      => true
  | .readOnly image  => memWf image
  | .byteArray image => memWf image

/-- `RomRead` (10_state.md R22): the byte the device answers and the device after the call. The
decoder does not know whether a read changes the device, so an arbitrary device's call is recorded. -/
def romRead (r : Rom) (a : PhysAddr) : Byte × Rom :=
  match r with
  | .external history => (Config.romAnswer history a, .external (.read a :: history))
  | .readOnly image   => (memRead image a.toNat, .readOnly image)
  | .byteArray image  => (memRead image a.toNat, .byteArray image)

/-- `RomWrite` (10_state.md R22): the device after it is handed the byte. -/
def romWrite (r : Rom) (a : PhysAddr) (x : Byte) : Rom :=
  match r with
  | .external history => .external (.write a x :: history)
  | .readOnly image   => .readOnly image
  | .byteArray image  => .byteArray (memWrite image a.toNat x)

end Sys2Proof.Machine
end

