-- ==== Sys2Proof/Machine/Ops.lean ====
section
/-! DEFINITION. The named operations over the state that the meanings share: the operands of
30_encoding.md R63 read in a state, driving the bus, the stores, the two registers, and the statements
of the read and write paths (R94, R95, R83; R124, R125, R84), each with its own condition. The block
takes no exception and returns from none (60_exceptions.md R150, R154), so no such operation exists. -/

namespace Sys2Proof.Machine

/-! ### Operands in a state -/

/-- `mode(M)` (30_encoding.md R55). -/
def State.mode (s : State) : Mode :=
  modeOf s.cfg s.m

/-- `BANK = M[3:0]` (10_state.md R14). -/
def State.bank (s : State) : BitVec 7 :=
  bankField s.m

/-- `s(w)` (10_state.md R15). -/
def State.sel (s : State) (w : Window) : Bool :=
  selectBit s.cfg s.m w

/-- `vis(w)` (10_state.md R16). -/
def State.vis (s : State) (r : Region) : Bool :=
  visible s.cfg s.v r

/-- `T(bank, block, off)` with the current `V` (40_address_translator.md R70, R71). -/
def State.addr (s : State) (bank : BitVec 7) (block : BitVec 2) (a : Access) : PhysAddr :=
  translate s.cfg s.v bank block (off13 a)

/-! ### The bus, the stores and the registers -/

/-- `d <- b; drv <- true`. -/
def State.drive (s : State) (b : Byte) : State :=
  { s with out := some { d := b, drv := true } }

/-- `RAM[p]` (00_scope.md section 6). -/
def State.ramByte (s : State) (p : PhysAddr) : Byte :=
  memRead s.ram p.toNat

/-- Read a store and drive the byte read (42_mode_router_read.md R95). -/
def State.driveFrom (s : State) (st : Store) (p : PhysAddr) : State :=
  match st with
  | .ram => s.drive (s.ramByte p)
  | .rom => { s with rom := (romRead s.rom p).2, out := some { d := (romRead s.rom p).1, drv := true } }

/-- Write a store: `RamWrite` or `RomWrite` (43_mode_router_write.md R125). -/
def State.storeTo (s : State) (st : Store) (p : PhysAddr) (b : Byte) : State :=
  match st with
  | .ram => { s with ram := memWrite s.ram p.toNat b }
  | .rom => { s with rom := romWrite s.rom p b }

/-- `if regno == 0 then M else V` (41_register_port.md R83). -/
def State.reg (s : State) (second : Bool) : Byte :=
  if second then s.v else s.m

/-- `if regno == 0 then M <- b else V <- b`, all eight bits (41_register_port.md R84; 10_state.md R13,
R18). -/
def State.setReg (s : State) (second : Bool) (b : Byte) : State :=
  if second then { s with v := b } else { s with m := b }

/-! ### The statements of the read path, as rows of one mode -/

/-- Window 0 in one mode, through one of its three signals (42_mode_router_read.md R94). -/
def State.readW0 (s : State) (md : Mode) (asserted : Bool) (a : Access) : State :=
  if s.mode = md ∧ asserted = true ∧ s.vis .w0 = true then
    s.driveFrom .ram (s.addr 0 0 a)
  else s

/-- Window `w` in one mode (42_mode_router_read.md R95), with the store and bank of the row. -/
def State.readWindow (s : State) (md : Mode) (w : Window) (st : Store) (bank : BitVec 7)
    (a : Access) : State :=
  if s.mode = md ∧ selectsWindow a w = true ∧ s.vis (.win w) = true then
    s.driveFrom st (s.addr bank (blockOf w) a)
  else s

/-- Window `w` in RAM_2 or RAM_ROM, when its select bit has the row's value (R100, R104). -/
def State.readWindowSel (s : State) (md : Mode) (w : Window) (bit : Bool) (st : Store)
    (bank : BitVec 7) (a : Access) : State :=
  if s.sel w = bit then s.readWindow md w st bank a else s

/-- The register statement of READ in one mode, for one register (41_register_port.md R83). -/
def State.readReg (s : State) (md : Mode) (second : Bool) (a : Access) : State :=
  if s.mode = md ∧ regNo a = second ∧ s.granted a = true then s.drive (s.reg second) else s

/-! ### The statements of the write path, as rows of one mode -/

/-- Window 0 in one mode, through one of its three signals (43_mode_router_write.md R124). -/
def State.writeW0 (s : State) (md : Mode) (asserted : Bool) (a : Access) : State :=
  if s.mode = md ∧ asserted = true ∧ s.vis .w0 = true then
    s.storeTo .ram (s.addr 0 0 a) a.data
  else s

/-- Window `w` in one mode (43_mode_router_write.md R125), with the store and bank of the row. -/
def State.writeWindow (s : State) (md : Mode) (w : Window) (st : Store) (bank : BitVec 7)
    (a : Access) : State :=
  if s.mode = md ∧ selectsWindow a w = true ∧ s.vis (.win w) = true then
    s.storeTo st (s.addr bank (blockOf w) a) a.data
  else s

/-- Window `w` in RAM_2 or RAM_ROM, when its select bit has the row's value (R130, R134). -/
def State.writeWindowSel (s : State) (md : Mode) (w : Window) (bit : Bool) (st : Store)
    (bank : BitVec 7) (a : Access) : State :=
  if s.sel w = bit then s.writeWindow md w st bank a else s

/-- The bank at which RAM_ROM writes with the select bit set: 0 of the ROM store, or, under
ROM_MODE_WRITE_TARGET = RAM, 1 of RamStore (43_mode_router_write.md R134). -/
def ramRomSelectedBank (c : Config) : BitVec 7 :=
  match c.romModeWriteTarget with
  | .rom => 0
  | .ram => 1

/-- The register statement of WRITE in one mode, for one register (41_register_port.md R84). -/
def State.writeReg (s : State) (md : Mode) (second : Bool) (a : Access) : State :=
  if s.mode = md ∧ regNo a = second ∧ s.granted a = true then s.setReg second a.data else s

/-! ### RESET -/

/-- `M <- 0x00; V <- 0x00; L <- true` (70_reset_and_hazards.md R165). -/
def State.resetRegisters (s : State) : State :=
  { s with m := resetM, v := resetV, latch := resetL }

end Sys2Proof.Machine
end

