-- ==== Sys2Proof/Machine/FixedLow.lean ====
section
/-! DEFINITION. The fixed low window in the modes other than START (42_mode_router_read.md R94; 43_mode_router_write.md R124): RAM bank 0, block 0, through any of the three signals. -/

namespace Sys2Proof.Machine

/-- RD.FLASH.W0.RAM1: `d <- RAM[T(0, 0, off13)]; drv <- true` (R94). -/
def execRdFlashW0Ram1 (a : Access) (s : State) : Result :=
  .next (s.readW0 .flash a.sel.ram1 a)

/-- RD.FLASH.W0.RAM2: `d <- RAM[T(0, 0, off13)]; drv <- true` (R94). -/
def execRdFlashW0Ram2 (a : Access) (s : State) : Result :=
  .next (s.readW0 .flash a.sel.ram2 a)

/-- RD.FLASH.W0.RAM3: `d <- RAM[T(0, 0, off13)]; drv <- true` (R94). -/
def execRdFlashW0Ram3 (a : Access) (s : State) : Result :=
  .next (s.readW0 .flash a.sel.ram3 a)

/-- RD.SUPER_ROM.W0.RAM1: `d <- RAM[T(0, 0, off13)]; drv <- true` (R94). -/
def execRdSuperRomW0Ram1 (a : Access) (s : State) : Result :=
  .next (s.readW0 .superRom a.sel.ram1 a)

/-- RD.SUPER_ROM.W0.RAM2: `d <- RAM[T(0, 0, off13)]; drv <- true` (R94). -/
def execRdSuperRomW0Ram2 (a : Access) (s : State) : Result :=
  .next (s.readW0 .superRom a.sel.ram2 a)

/-- RD.SUPER_ROM.W0.RAM3: `d <- RAM[T(0, 0, off13)]; drv <- true` (R94). -/
def execRdSuperRomW0Ram3 (a : Access) (s : State) : Result :=
  .next (s.readW0 .superRom a.sel.ram3 a)

/-- RD.RAM_ROM.W0.RAM1: `d <- RAM[T(0, 0, off13)]; drv <- true` (R94). -/
def execRdRamRomW0Ram1 (a : Access) (s : State) : Result :=
  .next (s.readW0 .ramRom a.sel.ram1 a)

/-- RD.RAM_ROM.W0.RAM2: `d <- RAM[T(0, 0, off13)]; drv <- true` (R94). -/
def execRdRamRomW0Ram2 (a : Access) (s : State) : Result :=
  .next (s.readW0 .ramRom a.sel.ram2 a)

/-- RD.RAM_ROM.W0.RAM3: `d <- RAM[T(0, 0, off13)]; drv <- true` (R94). -/
def execRdRamRomW0Ram3 (a : Access) (s : State) : Result :=
  .next (s.readW0 .ramRom a.sel.ram3 a)

/-- RD.RAM_1.W0.RAM1: `d <- RAM[T(0, 0, off13)]; drv <- true` (R94). -/
def execRdRam1W0Ram1 (a : Access) (s : State) : Result :=
  .next (s.readW0 .ram1 a.sel.ram1 a)

/-- RD.RAM_1.W0.RAM2: `d <- RAM[T(0, 0, off13)]; drv <- true` (R94). -/
def execRdRam1W0Ram2 (a : Access) (s : State) : Result :=
  .next (s.readW0 .ram1 a.sel.ram2 a)

/-- RD.RAM_1.W0.RAM3: `d <- RAM[T(0, 0, off13)]; drv <- true` (R94). -/
def execRdRam1W0Ram3 (a : Access) (s : State) : Result :=
  .next (s.readW0 .ram1 a.sel.ram3 a)

/-- RD.SUPER_RAM.W0.RAM1: `d <- RAM[T(0, 0, off13)]; drv <- true` (R94). -/
def execRdSuperRamW0Ram1 (a : Access) (s : State) : Result :=
  .next (s.readW0 .superRam a.sel.ram1 a)

/-- RD.SUPER_RAM.W0.RAM2: `d <- RAM[T(0, 0, off13)]; drv <- true` (R94). -/
def execRdSuperRamW0Ram2 (a : Access) (s : State) : Result :=
  .next (s.readW0 .superRam a.sel.ram2 a)

/-- RD.SUPER_RAM.W0.RAM3: `d <- RAM[T(0, 0, off13)]; drv <- true` (R94). -/
def execRdSuperRamW0Ram3 (a : Access) (s : State) : Result :=
  .next (s.readW0 .superRam a.sel.ram3 a)

/-- RD.RAM_2.W0.RAM1: `d <- RAM[T(0, 0, off13)]; drv <- true` (R94). -/
def execRdRam2W0Ram1 (a : Access) (s : State) : Result :=
  .next (s.readW0 .ram2 a.sel.ram1 a)

/-- RD.RAM_2.W0.RAM2: `d <- RAM[T(0, 0, off13)]; drv <- true` (R94). -/
def execRdRam2W0Ram2 (a : Access) (s : State) : Result :=
  .next (s.readW0 .ram2 a.sel.ram2 a)

/-- RD.RAM_2.W0.RAM3: `d <- RAM[T(0, 0, off13)]; drv <- true` (R94). -/
def execRdRam2W0Ram3 (a : Access) (s : State) : Result :=
  .next (s.readW0 .ram2 a.sel.ram3 a)

/-- WR.FLASH.W0.RAM1: `RAM[T(0, 0, off13)] <- DATA` (R124). -/
def execWrFlashW0Ram1 (a : Access) (s : State) : Result :=
  .next (s.writeW0 .flash a.sel.ram1 a)

/-- WR.FLASH.W0.RAM2: `RAM[T(0, 0, off13)] <- DATA` (R124). -/
def execWrFlashW0Ram2 (a : Access) (s : State) : Result :=
  .next (s.writeW0 .flash a.sel.ram2 a)

/-- WR.FLASH.W0.RAM3: `RAM[T(0, 0, off13)] <- DATA` (R124). -/
def execWrFlashW0Ram3 (a : Access) (s : State) : Result :=
  .next (s.writeW0 .flash a.sel.ram3 a)

/-- WR.SUPER_ROM.W0.RAM1: `RAM[T(0, 0, off13)] <- DATA` (R124). -/
def execWrSuperRomW0Ram1 (a : Access) (s : State) : Result :=
  .next (s.writeW0 .superRom a.sel.ram1 a)

/-- WR.SUPER_ROM.W0.RAM2: `RAM[T(0, 0, off13)] <- DATA` (R124). -/
def execWrSuperRomW0Ram2 (a : Access) (s : State) : Result :=
  .next (s.writeW0 .superRom a.sel.ram2 a)

/-- WR.SUPER_ROM.W0.RAM3: `RAM[T(0, 0, off13)] <- DATA` (R124). -/
def execWrSuperRomW0Ram3 (a : Access) (s : State) : Result :=
  .next (s.writeW0 .superRom a.sel.ram3 a)

/-- WR.RAM_ROM.W0.RAM1: `RAM[T(0, 0, off13)] <- DATA` (R124). -/
def execWrRamRomW0Ram1 (a : Access) (s : State) : Result :=
  .next (s.writeW0 .ramRom a.sel.ram1 a)

/-- WR.RAM_ROM.W0.RAM2: `RAM[T(0, 0, off13)] <- DATA` (R124). -/
def execWrRamRomW0Ram2 (a : Access) (s : State) : Result :=
  .next (s.writeW0 .ramRom a.sel.ram2 a)

/-- WR.RAM_ROM.W0.RAM3: `RAM[T(0, 0, off13)] <- DATA` (R124). -/
def execWrRamRomW0Ram3 (a : Access) (s : State) : Result :=
  .next (s.writeW0 .ramRom a.sel.ram3 a)

/-- WR.RAM_1.W0.RAM1: `RAM[T(0, 0, off13)] <- DATA` (R124). -/
def execWrRam1W0Ram1 (a : Access) (s : State) : Result :=
  .next (s.writeW0 .ram1 a.sel.ram1 a)

/-- WR.RAM_1.W0.RAM2: `RAM[T(0, 0, off13)] <- DATA` (R124). -/
def execWrRam1W0Ram2 (a : Access) (s : State) : Result :=
  .next (s.writeW0 .ram1 a.sel.ram2 a)

/-- WR.RAM_1.W0.RAM3: `RAM[T(0, 0, off13)] <- DATA` (R124). -/
def execWrRam1W0Ram3 (a : Access) (s : State) : Result :=
  .next (s.writeW0 .ram1 a.sel.ram3 a)

/-- WR.SUPER_RAM.W0.RAM1: `RAM[T(0, 0, off13)] <- DATA` (R124). -/
def execWrSuperRamW0Ram1 (a : Access) (s : State) : Result :=
  .next (s.writeW0 .superRam a.sel.ram1 a)

/-- WR.SUPER_RAM.W0.RAM2: `RAM[T(0, 0, off13)] <- DATA` (R124). -/
def execWrSuperRamW0Ram2 (a : Access) (s : State) : Result :=
  .next (s.writeW0 .superRam a.sel.ram2 a)

/-- WR.SUPER_RAM.W0.RAM3: `RAM[T(0, 0, off13)] <- DATA` (R124). -/
def execWrSuperRamW0Ram3 (a : Access) (s : State) : Result :=
  .next (s.writeW0 .superRam a.sel.ram3 a)

/-- WR.RAM_2.W0.RAM1: `RAM[T(0, 0, off13)] <- DATA` (R124). -/
def execWrRam2W0Ram1 (a : Access) (s : State) : Result :=
  .next (s.writeW0 .ram2 a.sel.ram1 a)

/-- WR.RAM_2.W0.RAM2: `RAM[T(0, 0, off13)] <- DATA` (R124). -/
def execWrRam2W0Ram2 (a : Access) (s : State) : Result :=
  .next (s.writeW0 .ram2 a.sel.ram2 a)

/-- WR.RAM_2.W0.RAM3: `RAM[T(0, 0, off13)] <- DATA` (R124). -/
def execWrRam2W0Ram3 (a : Access) (s : State) : Result :=
  .next (s.writeW0 .ram2 a.sel.ram3 a)

end Sys2Proof.Machine
end

