-- ==== Sys2Proof/Machine/RegisterPort.lean ====
section
/-! DEFINITION. RegisterPort (41_register_port.md R83, R84): the register rows of every mode, gated as R82 says. -/

namespace Sys2Proof.Machine

/-- RD.START.REG1: `d <- M; drv <- true` (R93). -/
def execRdStartReg1 (a : Access) (s : State) : Result :=
  .next (s.readReg .start false a)

/-- RD.START.REG2: `d <- V; drv <- true` (R93). -/
def execRdStartReg2 (a : Access) (s : State) : Result :=
  .next (s.readReg .start true a)

/-- RD.FLASH.REG1: `d <- M; drv <- true` (R109). -/
def execRdFlashReg1 (a : Access) (s : State) : Result :=
  .next (s.readReg .flash false a)

/-- RD.FLASH.REG2: `d <- V; drv <- true` (R109). -/
def execRdFlashReg2 (a : Access) (s : State) : Result :=
  .next (s.readReg .flash true a)

/-- RD.SUPER_ROM.REG1: `d <- M; drv <- true` (R109). -/
def execRdSuperRomReg1 (a : Access) (s : State) : Result :=
  .next (s.readReg .superRom false a)

/-- RD.SUPER_ROM.REG2: `d <- V; drv <- true` (R109). -/
def execRdSuperRomReg2 (a : Access) (s : State) : Result :=
  .next (s.readReg .superRom true a)

/-- RD.RAM_ROM.REG1: `d <- M; drv <- true` (R109). -/
def execRdRamRomReg1 (a : Access) (s : State) : Result :=
  .next (s.readReg .ramRom false a)

/-- RD.RAM_ROM.REG2: `d <- V; drv <- true` (R109). -/
def execRdRamRomReg2 (a : Access) (s : State) : Result :=
  .next (s.readReg .ramRom true a)

/-- RD.RAM_1.REG1: `d <- M; drv <- true` (R109). -/
def execRdRam1Reg1 (a : Access) (s : State) : Result :=
  .next (s.readReg .ram1 false a)

/-- RD.RAM_1.REG2: `d <- V; drv <- true` (R109). -/
def execRdRam1Reg2 (a : Access) (s : State) : Result :=
  .next (s.readReg .ram1 true a)

/-- RD.SUPER_RAM.REG1: `d <- M; drv <- true` (R109). -/
def execRdSuperRamReg1 (a : Access) (s : State) : Result :=
  .next (s.readReg .superRam false a)

/-- RD.SUPER_RAM.REG2: `d <- V; drv <- true` (R109). -/
def execRdSuperRamReg2 (a : Access) (s : State) : Result :=
  .next (s.readReg .superRam true a)

/-- RD.RAM_2.REG1: `d <- M; drv <- true` (R109). -/
def execRdRam2Reg1 (a : Access) (s : State) : Result :=
  .next (s.readReg .ram2 false a)

/-- RD.RAM_2.REG2: `d <- V; drv <- true` (R109). -/
def execRdRam2Reg2 (a : Access) (s : State) : Result :=
  .next (s.readReg .ram2 true a)

/-- WR.START.REG1: `M <- DATA` (R123). -/
def execWrStartReg1 (a : Access) (s : State) : Result :=
  .next (s.writeReg .start false a)

/-- WR.START.REG2: `V <- DATA` (R123). -/
def execWrStartReg2 (a : Access) (s : State) : Result :=
  .next (s.writeReg .start true a)

/-- WR.FLASH.REG1: `M <- DATA` (R139). -/
def execWrFlashReg1 (a : Access) (s : State) : Result :=
  .next (s.writeReg .flash false a)

/-- WR.FLASH.REG2: `V <- DATA` (R139). -/
def execWrFlashReg2 (a : Access) (s : State) : Result :=
  .next (s.writeReg .flash true a)

/-- WR.SUPER_ROM.REG1: `M <- DATA` (R139). -/
def execWrSuperRomReg1 (a : Access) (s : State) : Result :=
  .next (s.writeReg .superRom false a)

/-- WR.SUPER_ROM.REG2: `V <- DATA` (R139). -/
def execWrSuperRomReg2 (a : Access) (s : State) : Result :=
  .next (s.writeReg .superRom true a)

/-- WR.RAM_ROM.REG1: `M <- DATA` (R139). -/
def execWrRamRomReg1 (a : Access) (s : State) : Result :=
  .next (s.writeReg .ramRom false a)

/-- WR.RAM_ROM.REG2: `V <- DATA` (R139). -/
def execWrRamRomReg2 (a : Access) (s : State) : Result :=
  .next (s.writeReg .ramRom true a)

/-- WR.RAM_1.REG1: `M <- DATA` (R139). -/
def execWrRam1Reg1 (a : Access) (s : State) : Result :=
  .next (s.writeReg .ram1 false a)

/-- WR.RAM_1.REG2: `V <- DATA` (R139). -/
def execWrRam1Reg2 (a : Access) (s : State) : Result :=
  .next (s.writeReg .ram1 true a)

/-- WR.SUPER_RAM.REG1: `M <- DATA` (R139). -/
def execWrSuperRamReg1 (a : Access) (s : State) : Result :=
  .next (s.writeReg .superRam false a)

/-- WR.SUPER_RAM.REG2: `V <- DATA` (R139). -/
def execWrSuperRamReg2 (a : Access) (s : State) : Result :=
  .next (s.writeReg .superRam true a)

/-- WR.RAM_2.REG1: `M <- DATA` (R139). -/
def execWrRam2Reg1 (a : Access) (s : State) : Result :=
  .next (s.writeReg .ram2 false a)

/-- WR.RAM_2.REG2: `V <- DATA` (R139). -/
def execWrRam2Reg2 (a : Access) (s : State) : Result :=
  .next (s.writeReg .ram2 true a)

end Sys2Proof.Machine
end

