-- ==== Sys2Proof/Machine/ResetAndIgnored.lean ====
section
/-! DEFINITION. RESET (70_reset_and_hazards.md R165) and the rows whose action is none: the ignored I/O signal (30_encoding.md R59) and mode UNUSED (R108, R138). -/

namespace Sys2Proof.Machine

/-- RESET: "sets mode=0, visibility=0, latch=true" (R165); RAM and the external device are untouched. -/
def execReset (s : State) : Result :=
  .next s.resetRegisters

/-- RD.ANY.IO2: `none` (R59). -/
def execRdAnyIo2 (_a : Access) (s : State) : Result :=
  .next s

/-- RD.UNUSED.ANY: `none` (R108). -/
def execRdUnusedAny (_a : Access) (s : State) : Result :=
  .next s

/-- WR.ANY.IO2: `none` (R59). -/
def execWrAnyIo2 (_a : Access) (s : State) : Result :=
  .next s

/-- WR.UNUSED.ANY: `none` (R138). -/
def execWrUnusedAny (_a : Access) (s : State) : Result :=
  .next s

end Sys2Proof.Machine
end

