-- ==== Sys2Proof/Machine/Start.lean ====
section
/-! DEFINITION. Mode START (42_mode_router_read.md R91, R92; 43_mode_router_write.md R121, R122): windows 0 to 3 have no access, and window 5 reads ROM bank 0 and locks, or writes RAM bank 1 and unlocks. -/

namespace Sys2Proof.Machine

/-- RD.START.W0.RAM1: `none` (R91). -/
def execRdStartW0Ram1 (_a : Access) (s : State) : Result :=
  .next s

/-- RD.START.W0.RAM2: `none` (R91). -/
def execRdStartW0Ram2 (_a : Access) (s : State) : Result :=
  .next s

/-- RD.START.W0.RAM3: `none` (R91). -/
def execRdStartW0Ram3 (_a : Access) (s : State) : Result :=
  .next s

/-- RD.START.W1: `none` (R91). -/
def execRdStartW1 (_a : Access) (s : State) : Result :=
  .next s

/-- RD.START.W2: `none` (R91). -/
def execRdStartW2 (_a : Access) (s : State) : Result :=
  .next s

/-- RD.START.W3: `none` (R91). -/
def execRdStartW3 (_a : Access) (s : State) : Result :=
  .next s

/-- RD.START.W5: `d <- RomRead(T(0, 3, off13)); drv <- true; L <- true` (R92). -/
def execRdStartW5 (a : Access) (s : State) : Result :=
  .next (if s.mode = .start ∧ a.sel.blk5 = true ∧ startW5Open s.cfg s.v = true then
      (s.driveFrom .rom (s.addr 0 3 a)).lock
    else s)

/-- WR.START.W0.RAM1: `none` (R121). -/
def execWrStartW0Ram1 (_a : Access) (s : State) : Result :=
  .next s

/-- WR.START.W0.RAM2: `none` (R121). -/
def execWrStartW0Ram2 (_a : Access) (s : State) : Result :=
  .next s

/-- WR.START.W0.RAM3: `none` (R121). -/
def execWrStartW0Ram3 (_a : Access) (s : State) : Result :=
  .next s

/-- WR.START.W1: `none` (R121). -/
def execWrStartW1 (_a : Access) (s : State) : Result :=
  .next s

/-- WR.START.W2: `none` (R121). -/
def execWrStartW2 (_a : Access) (s : State) : Result :=
  .next s

/-- WR.START.W3: `none` (R121). -/
def execWrStartW3 (_a : Access) (s : State) : Result :=
  .next s

/-- WR.START.W5: `RAM[T(1, 3, off13)] <- DATA; L <- false` (R122). -/
def execWrStartW5 (a : Access) (s : State) : Result :=
  .next (if s.mode = .start ∧ a.sel.blk5 = true ∧ startW5Open s.cfg s.v = true then
      (s.storeTo .ram (s.addr 1 3 a) a.data).unlock
    else s)

end Sys2Proof.Machine
end

