-- ==== Sys2Proof/Machine/WindowRead.lean ====
section
/-! DEFINITION. READ of windows 1, 2, 3, 5 in the modes other than START (42_mode_router_read.md R95 to R106): each row with the store and bank that its own action names. -/

namespace Sys2Proof.Machine

/-- RD.FLASH.W1: `d <- RomRead(T(BANK, 0, off13)); drv <- true` (R106). -/
def execRdFlashW1 (a : Access) (s : State) : Result :=
  .next (s.readWindow .flash .w1 .rom s.bank a)

/-- RD.FLASH.W2: `d <- RomRead(T(BANK, 1, off13)); drv <- true` (R106). -/
def execRdFlashW2 (a : Access) (s : State) : Result :=
  .next (s.readWindow .flash .w2 .rom s.bank a)

/-- RD.FLASH.W3: `d <- RomRead(T(BANK, 2, off13)); drv <- true` (R106). -/
def execRdFlashW3 (a : Access) (s : State) : Result :=
  .next (s.readWindow .flash .w3 .rom s.bank a)

/-- RD.FLASH.W5: `d <- RomRead(T(BANK, 3, off13)); drv <- true` (R106). -/
def execRdFlashW5 (a : Access) (s : State) : Result :=
  .next (s.readWindow .flash .w5 .rom s.bank a)

/-- RD.SUPER_ROM.W1: `d <- RomRead(T(BANK, 0, off13)); drv <- true` (R96). -/
def execRdSuperRomW1 (a : Access) (s : State) : Result :=
  .next (s.readWindow .superRom .w1 .rom s.bank a)

/-- RD.SUPER_ROM.W2: `d <- RomRead(T(BANK, 1, off13)); drv <- true` (R96). -/
def execRdSuperRomW2 (a : Access) (s : State) : Result :=
  .next (s.readWindow .superRom .w2 .rom s.bank a)

/-- RD.SUPER_ROM.W3: `d <- RomRead(T(BANK, 2, off13)); drv <- true` (R96). -/
def execRdSuperRomW3 (a : Access) (s : State) : Result :=
  .next (s.readWindow .superRom .w3 .rom s.bank a)

/-- RD.SUPER_ROM.W5: `d <- RomRead(T(BANK, 3, off13)); drv <- true` (R96). -/
def execRdSuperRomW5 (a : Access) (s : State) : Result :=
  .next (s.readWindow .superRom .w5 .rom s.bank a)

/-- RD.RAM_ROM.W1.S0: `d <- RAM[T(1, 0, off13)]; drv <- true` (R104). -/
def execRdRamRomW1S0 (a : Access) (s : State) : Result :=
  .next (s.readWindowSel .ramRom .w1 false .ram 1 a)

/-- RD.RAM_ROM.W1.S1: `d <- RomRead(T(0, 0, off13)); drv <- true` (R104). -/
def execRdRamRomW1S1 (a : Access) (s : State) : Result :=
  .next (s.readWindowSel .ramRom .w1 true .rom 0 a)

/-- RD.RAM_ROM.W2.S0: `d <- RAM[T(1, 1, off13)]; drv <- true` (R104). -/
def execRdRamRomW2S0 (a : Access) (s : State) : Result :=
  .next (s.readWindowSel .ramRom .w2 false .ram 1 a)

/-- RD.RAM_ROM.W2.S1: `d <- RomRead(T(0, 1, off13)); drv <- true` (R104). -/
def execRdRamRomW2S1 (a : Access) (s : State) : Result :=
  .next (s.readWindowSel .ramRom .w2 true .rom 0 a)

/-- RD.RAM_ROM.W3.S0: `d <- RAM[T(1, 2, off13)]; drv <- true` (R104). -/
def execRdRamRomW3S0 (a : Access) (s : State) : Result :=
  .next (s.readWindowSel .ramRom .w3 false .ram 1 a)

/-- RD.RAM_ROM.W3.S1: `d <- RomRead(T(0, 2, off13)); drv <- true` (R104). -/
def execRdRamRomW3S1 (a : Access) (s : State) : Result :=
  .next (s.readWindowSel .ramRom .w3 true .rom 0 a)

/-- RD.RAM_ROM.W5.S0: `d <- RAM[T(1, 3, off13)]; drv <- true` (R104). -/
def execRdRamRomW5S0 (a : Access) (s : State) : Result :=
  .next (s.readWindowSel .ramRom .w5 false .ram 1 a)

/-- RD.RAM_ROM.W5.S1: `d <- RomRead(T(0, 3, off13)); drv <- true` (R104). -/
def execRdRamRomW5S1 (a : Access) (s : State) : Result :=
  .next (s.readWindowSel .ramRom .w5 true .rom 0 a)

/-- RD.RAM_1.W1: `d <- RAM[T(1, 0, off13)]; drv <- true` (R98). -/
def execRdRam1W1 (a : Access) (s : State) : Result :=
  .next (s.readWindow .ram1 .w1 .ram 1 a)

/-- RD.RAM_1.W2: `d <- RAM[T(1, 1, off13)]; drv <- true` (R98). -/
def execRdRam1W2 (a : Access) (s : State) : Result :=
  .next (s.readWindow .ram1 .w2 .ram 1 a)

/-- RD.RAM_1.W3: `d <- RAM[T(1, 2, off13)]; drv <- true` (R98). -/
def execRdRam1W3 (a : Access) (s : State) : Result :=
  .next (s.readWindow .ram1 .w3 .ram 1 a)

/-- RD.RAM_1.W5: `d <- RAM[T(1, 3, off13)]; drv <- true` (R98). -/
def execRdRam1W5 (a : Access) (s : State) : Result :=
  .next (s.readWindow .ram1 .w5 .ram 1 a)

/-- RD.SUPER_RAM.W1: `d <- RAM[T(BANK, 0, off13)]; drv <- true` (R102). -/
def execRdSuperRamW1 (a : Access) (s : State) : Result :=
  .next (s.readWindow .superRam .w1 .ram s.bank a)

/-- RD.SUPER_RAM.W2: `d <- RAM[T(BANK, 1, off13)]; drv <- true` (R102). -/
def execRdSuperRamW2 (a : Access) (s : State) : Result :=
  .next (s.readWindow .superRam .w2 .ram s.bank a)

/-- RD.SUPER_RAM.W3: `d <- RAM[T(BANK, 2, off13)]; drv <- true` (R102). -/
def execRdSuperRamW3 (a : Access) (s : State) : Result :=
  .next (s.readWindow .superRam .w3 .ram s.bank a)

/-- RD.SUPER_RAM.W5: `d <- RAM[T(BANK, 3, off13)]; drv <- true` (R102). -/
def execRdSuperRamW5 (a : Access) (s : State) : Result :=
  .next (s.readWindow .superRam .w5 .ram s.bank a)

/-- RD.RAM_2.W1.S0: `d <- RAM[T(1, 0, off13)]; drv <- true` (R100). -/
def execRdRam2W1S0 (a : Access) (s : State) : Result :=
  .next (s.readWindowSel .ram2 .w1 false .ram 1 a)

/-- RD.RAM_2.W1.S1: `d <- RAM[T(2, 0, off13)]; drv <- true` (R100). -/
def execRdRam2W1S1 (a : Access) (s : State) : Result :=
  .next (s.readWindowSel .ram2 .w1 true .ram 2 a)

/-- RD.RAM_2.W2.S0: `d <- RAM[T(1, 1, off13)]; drv <- true` (R100). -/
def execRdRam2W2S0 (a : Access) (s : State) : Result :=
  .next (s.readWindowSel .ram2 .w2 false .ram 1 a)

/-- RD.RAM_2.W2.S1: `d <- RAM[T(2, 1, off13)]; drv <- true` (R100). -/
def execRdRam2W2S1 (a : Access) (s : State) : Result :=
  .next (s.readWindowSel .ram2 .w2 true .ram 2 a)

/-- RD.RAM_2.W3.S0: `d <- RAM[T(1, 2, off13)]; drv <- true` (R100). -/
def execRdRam2W3S0 (a : Access) (s : State) : Result :=
  .next (s.readWindowSel .ram2 .w3 false .ram 1 a)

/-- RD.RAM_2.W3.S1: `d <- RAM[T(2, 2, off13)]; drv <- true` (R100). -/
def execRdRam2W3S1 (a : Access) (s : State) : Result :=
  .next (s.readWindowSel .ram2 .w3 true .ram 2 a)

/-- RD.RAM_2.W5.S0: `d <- RAM[T(1, 3, off13)]; drv <- true` (R100). -/
def execRdRam2W5S0 (a : Access) (s : State) : Result :=
  .next (s.readWindowSel .ram2 .w5 false .ram 1 a)

/-- RD.RAM_2.W5.S1: `d <- RAM[T(2, 3, off13)]; drv <- true` (R100). -/
def execRdRam2W5S1 (a : Access) (s : State) : Result :=
  .next (s.readWindowSel .ram2 .w5 true .ram 2 a)

end Sys2Proof.Machine
end

