-- ==== Sys2Proof/Machine/WindowWrite.lean ====
section
/-! DEFINITION. WRITE of windows 1, 2, 3, 5 in the modes other than START (43_mode_router_write.md R125 to R136): each row with the store and bank that its own action names; the rows of SUPER_ROM, and of RAM_ROM with the select bit set, follow ROM_MODE_WRITE_TARGET (D14). -/

namespace Sys2Proof.Machine

/-- WR.FLASH.W1: `RomWrite(T(BANK, 0, off13), DATA)` (R136). -/
def execWrFlashW1 (a : Access) (s : State) : Result :=
  .next (s.writeWindow .flash .w1 .rom s.bank a)

/-- WR.FLASH.W2: `RomWrite(T(BANK, 1, off13), DATA)` (R136). -/
def execWrFlashW2 (a : Access) (s : State) : Result :=
  .next (s.writeWindow .flash .w2 .rom s.bank a)

/-- WR.FLASH.W3: `RomWrite(T(BANK, 2, off13), DATA)` (R136). -/
def execWrFlashW3 (a : Access) (s : State) : Result :=
  .next (s.writeWindow .flash .w3 .rom s.bank a)

/-- WR.FLASH.W5: `RomWrite(T(BANK, 3, off13), DATA)` (R136). -/
def execWrFlashW5 (a : Access) (s : State) : Result :=
  .next (s.writeWindow .flash .w5 .rom s.bank a)

/-- WR.SUPER_ROM.W1: `RomWrite(T(BANK, 0, off13), DATA)` (R126). -/
def execWrSuperRomW1 (a : Access) (s : State) : Result :=
  .next (s.writeWindow .superRom .w1 s.cfg.romModeWriteTarget s.bank a)

/-- WR.SUPER_ROM.W2: `RomWrite(T(BANK, 1, off13), DATA)` (R126). -/
def execWrSuperRomW2 (a : Access) (s : State) : Result :=
  .next (s.writeWindow .superRom .w2 s.cfg.romModeWriteTarget s.bank a)

/-- WR.SUPER_ROM.W3: `RomWrite(T(BANK, 2, off13), DATA)` (R126). -/
def execWrSuperRomW3 (a : Access) (s : State) : Result :=
  .next (s.writeWindow .superRom .w3 s.cfg.romModeWriteTarget s.bank a)

/-- WR.SUPER_ROM.W5: `RomWrite(T(BANK, 3, off13), DATA)` (R126). -/
def execWrSuperRomW5 (a : Access) (s : State) : Result :=
  .next (s.writeWindow .superRom .w5 s.cfg.romModeWriteTarget s.bank a)

/-- WR.RAM_ROM.W1.S0: `RAM[T(1, 0, off13)] <- DATA` (R134). -/
def execWrRamRomW1S0 (a : Access) (s : State) : Result :=
  .next (s.writeWindowSel .ramRom .w1 false .ram 1 a)

/-- WR.RAM_ROM.W1.S1: `RomWrite(T(0, 0, off13), DATA)` (R134). -/
def execWrRamRomW1S1 (a : Access) (s : State) : Result :=
  .next (s.writeWindowSel .ramRom .w1 true s.cfg.romModeWriteTarget (ramRomSelectedBank s.cfg) a)

/-- WR.RAM_ROM.W2.S0: `RAM[T(1, 1, off13)] <- DATA` (R134). -/
def execWrRamRomW2S0 (a : Access) (s : State) : Result :=
  .next (s.writeWindowSel .ramRom .w2 false .ram 1 a)

/-- WR.RAM_ROM.W2.S1: `RomWrite(T(0, 1, off13), DATA)` (R134). -/
def execWrRamRomW2S1 (a : Access) (s : State) : Result :=
  .next (s.writeWindowSel .ramRom .w2 true s.cfg.romModeWriteTarget (ramRomSelectedBank s.cfg) a)

/-- WR.RAM_ROM.W3.S0: `RAM[T(1, 2, off13)] <- DATA` (R134). -/
def execWrRamRomW3S0 (a : Access) (s : State) : Result :=
  .next (s.writeWindowSel .ramRom .w3 false .ram 1 a)

/-- WR.RAM_ROM.W3.S1: `RomWrite(T(0, 2, off13), DATA)` (R134). -/
def execWrRamRomW3S1 (a : Access) (s : State) : Result :=
  .next (s.writeWindowSel .ramRom .w3 true s.cfg.romModeWriteTarget (ramRomSelectedBank s.cfg) a)

/-- WR.RAM_ROM.W5.S0: `RAM[T(1, 3, off13)] <- DATA` (R134). -/
def execWrRamRomW5S0 (a : Access) (s : State) : Result :=
  .next (s.writeWindowSel .ramRom .w5 false .ram 1 a)

/-- WR.RAM_ROM.W5.S1: `RomWrite(T(0, 3, off13), DATA)` (R134). -/
def execWrRamRomW5S1 (a : Access) (s : State) : Result :=
  .next (s.writeWindowSel .ramRom .w5 true s.cfg.romModeWriteTarget (ramRomSelectedBank s.cfg) a)

/-- WR.RAM_1.W1: `RAM[T(1, 0, off13)] <- DATA` (R128). -/
def execWrRam1W1 (a : Access) (s : State) : Result :=
  .next (s.writeWindow .ram1 .w1 .ram 1 a)

/-- WR.RAM_1.W2: `RAM[T(1, 1, off13)] <- DATA` (R128). -/
def execWrRam1W2 (a : Access) (s : State) : Result :=
  .next (s.writeWindow .ram1 .w2 .ram 1 a)

/-- WR.RAM_1.W3: `RAM[T(1, 2, off13)] <- DATA` (R128). -/
def execWrRam1W3 (a : Access) (s : State) : Result :=
  .next (s.writeWindow .ram1 .w3 .ram 1 a)

/-- WR.RAM_1.W5: `RAM[T(1, 3, off13)] <- DATA` (R128). -/
def execWrRam1W5 (a : Access) (s : State) : Result :=
  .next (s.writeWindow .ram1 .w5 .ram 1 a)

/-- WR.SUPER_RAM.W1: `RAM[T(BANK, 0, off13)] <- DATA` (R132). -/
def execWrSuperRamW1 (a : Access) (s : State) : Result :=
  .next (s.writeWindow .superRam .w1 .ram s.bank a)

/-- WR.SUPER_RAM.W2: `RAM[T(BANK, 1, off13)] <- DATA` (R132). -/
def execWrSuperRamW2 (a : Access) (s : State) : Result :=
  .next (s.writeWindow .superRam .w2 .ram s.bank a)

/-- WR.SUPER_RAM.W3: `RAM[T(BANK, 2, off13)] <- DATA` (R132). -/
def execWrSuperRamW3 (a : Access) (s : State) : Result :=
  .next (s.writeWindow .superRam .w3 .ram s.bank a)

/-- WR.SUPER_RAM.W5: `RAM[T(BANK, 3, off13)] <- DATA` (R132). -/
def execWrSuperRamW5 (a : Access) (s : State) : Result :=
  .next (s.writeWindow .superRam .w5 .ram s.bank a)

/-- WR.RAM_2.W1.S0: `RAM[T(1, 0, off13)] <- DATA` (R130). -/
def execWrRam2W1S0 (a : Access) (s : State) : Result :=
  .next (s.writeWindowSel .ram2 .w1 false .ram 1 a)

/-- WR.RAM_2.W1.S1: `RAM[T(2, 0, off13)] <- DATA` (R130). -/
def execWrRam2W1S1 (a : Access) (s : State) : Result :=
  .next (s.writeWindowSel .ram2 .w1 true .ram 2 a)

/-- WR.RAM_2.W2.S0: `RAM[T(1, 1, off13)] <- DATA` (R130). -/
def execWrRam2W2S0 (a : Access) (s : State) : Result :=
  .next (s.writeWindowSel .ram2 .w2 false .ram 1 a)

/-- WR.RAM_2.W2.S1: `RAM[T(2, 1, off13)] <- DATA` (R130). -/
def execWrRam2W2S1 (a : Access) (s : State) : Result :=
  .next (s.writeWindowSel .ram2 .w2 true .ram 2 a)

/-- WR.RAM_2.W3.S0: `RAM[T(1, 2, off13)] <- DATA` (R130). -/
def execWrRam2W3S0 (a : Access) (s : State) : Result :=
  .next (s.writeWindowSel .ram2 .w3 false .ram 1 a)

/-- WR.RAM_2.W3.S1: `RAM[T(2, 2, off13)] <- DATA` (R130). -/
def execWrRam2W3S1 (a : Access) (s : State) : Result :=
  .next (s.writeWindowSel .ram2 .w3 true .ram 2 a)

/-- WR.RAM_2.W5.S0: `RAM[T(1, 3, off13)] <- DATA` (R130). -/
def execWrRam2W5S0 (a : Access) (s : State) : Result :=
  .next (s.writeWindowSel .ram2 .w5 false .ram 1 a)

/-- WR.RAM_2.W5.S1: `RAM[T(2, 3, off13)] <- DATA` (R130). -/
def execWrRam2W5S1 (a : Access) (s : State) : Result :=
  .next (s.writeWindowSel .ram2 .w5 true .ram 2 a)

end Sys2Proof.Machine
end

