-- ==== Sys2Proof/Machine/Dispatch.lean ====
section
/-! DEFINITION. One arm per constructor of Instr, each one direct call of its meaning. -/

namespace Sys2Proof.Machine

def exec (i : Instr) (s : State) : Host.Outcome State Fault Refusal :=
  match i with
  | .reset => Sys2Proof.Machine.execReset s
  | .rdAnyIo2 a => Sys2Proof.Machine.execRdAnyIo2 a s
  | .rdUnusedAny a => Sys2Proof.Machine.execRdUnusedAny a s
  | .rdStartW0Ram1 a => Sys2Proof.Machine.execRdStartW0Ram1 a s
  | .rdStartW0Ram2 a => Sys2Proof.Machine.execRdStartW0Ram2 a s
  | .rdStartW0Ram3 a => Sys2Proof.Machine.execRdStartW0Ram3 a s
  | .rdStartW1 a => Sys2Proof.Machine.execRdStartW1 a s
  | .rdStartW2 a => Sys2Proof.Machine.execRdStartW2 a s
  | .rdStartW3 a => Sys2Proof.Machine.execRdStartW3 a s
  | .rdStartW5 a => Sys2Proof.Machine.execRdStartW5 a s
  | .rdStartReg1 a => Sys2Proof.Machine.execRdStartReg1 a s
  | .rdStartReg2 a => Sys2Proof.Machine.execRdStartReg2 a s
  | .rdFlashW0Ram1 a => Sys2Proof.Machine.execRdFlashW0Ram1 a s
  | .rdFlashW0Ram2 a => Sys2Proof.Machine.execRdFlashW0Ram2 a s
  | .rdFlashW0Ram3 a => Sys2Proof.Machine.execRdFlashW0Ram3 a s
  | .rdFlashW1 a => Sys2Proof.Machine.execRdFlashW1 a s
  | .rdFlashW2 a => Sys2Proof.Machine.execRdFlashW2 a s
  | .rdFlashW3 a => Sys2Proof.Machine.execRdFlashW3 a s
  | .rdFlashW5 a => Sys2Proof.Machine.execRdFlashW5 a s
  | .rdFlashReg1 a => Sys2Proof.Machine.execRdFlashReg1 a s
  | .rdFlashReg2 a => Sys2Proof.Machine.execRdFlashReg2 a s
  | .rdSuperRomW0Ram1 a => Sys2Proof.Machine.execRdSuperRomW0Ram1 a s
  | .rdSuperRomW0Ram2 a => Sys2Proof.Machine.execRdSuperRomW0Ram2 a s
  | .rdSuperRomW0Ram3 a => Sys2Proof.Machine.execRdSuperRomW0Ram3 a s
  | .rdSuperRomW1 a => Sys2Proof.Machine.execRdSuperRomW1 a s
  | .rdSuperRomW2 a => Sys2Proof.Machine.execRdSuperRomW2 a s
  | .rdSuperRomW3 a => Sys2Proof.Machine.execRdSuperRomW3 a s
  | .rdSuperRomW5 a => Sys2Proof.Machine.execRdSuperRomW5 a s
  | .rdSuperRomReg1 a => Sys2Proof.Machine.execRdSuperRomReg1 a s
  | .rdSuperRomReg2 a => Sys2Proof.Machine.execRdSuperRomReg2 a s
  | .rdRamRomW0Ram1 a => Sys2Proof.Machine.execRdRamRomW0Ram1 a s
  | .rdRamRomW0Ram2 a => Sys2Proof.Machine.execRdRamRomW0Ram2 a s
  | .rdRamRomW0Ram3 a => Sys2Proof.Machine.execRdRamRomW0Ram3 a s
  | .rdRamRomW1S0 a => Sys2Proof.Machine.execRdRamRomW1S0 a s
  | .rdRamRomW1S1 a => Sys2Proof.Machine.execRdRamRomW1S1 a s
  | .rdRamRomW2S0 a => Sys2Proof.Machine.execRdRamRomW2S0 a s
  | .rdRamRomW2S1 a => Sys2Proof.Machine.execRdRamRomW2S1 a s
  | .rdRamRomW3S0 a => Sys2Proof.Machine.execRdRamRomW3S0 a s
  | .rdRamRomW3S1 a => Sys2Proof.Machine.execRdRamRomW3S1 a s
  | .rdRamRomW5S0 a => Sys2Proof.Machine.execRdRamRomW5S0 a s
  | .rdRamRomW5S1 a => Sys2Proof.Machine.execRdRamRomW5S1 a s
  | .rdRamRomReg1 a => Sys2Proof.Machine.execRdRamRomReg1 a s
  | .rdRamRomReg2 a => Sys2Proof.Machine.execRdRamRomReg2 a s
  | .rdRam1W0Ram1 a => Sys2Proof.Machine.execRdRam1W0Ram1 a s
  | .rdRam1W0Ram2 a => Sys2Proof.Machine.execRdRam1W0Ram2 a s
  | .rdRam1W0Ram3 a => Sys2Proof.Machine.execRdRam1W0Ram3 a s
  | .rdRam1W1 a => Sys2Proof.Machine.execRdRam1W1 a s
  | .rdRam1W2 a => Sys2Proof.Machine.execRdRam1W2 a s
  | .rdRam1W3 a => Sys2Proof.Machine.execRdRam1W3 a s
  | .rdRam1W5 a => Sys2Proof.Machine.execRdRam1W5 a s
  | .rdRam1Reg1 a => Sys2Proof.Machine.execRdRam1Reg1 a s
  | .rdRam1Reg2 a => Sys2Proof.Machine.execRdRam1Reg2 a s
  | .rdSuperRamW0Ram1 a => Sys2Proof.Machine.execRdSuperRamW0Ram1 a s
  | .rdSuperRamW0Ram2 a => Sys2Proof.Machine.execRdSuperRamW0Ram2 a s
  | .rdSuperRamW0Ram3 a => Sys2Proof.Machine.execRdSuperRamW0Ram3 a s
  | .rdSuperRamW1 a => Sys2Proof.Machine.execRdSuperRamW1 a s
  | .rdSuperRamW2 a => Sys2Proof.Machine.execRdSuperRamW2 a s
  | .rdSuperRamW3 a => Sys2Proof.Machine.execRdSuperRamW3 a s
  | .rdSuperRamW5 a => Sys2Proof.Machine.execRdSuperRamW5 a s
  | .rdSuperRamReg1 a => Sys2Proof.Machine.execRdSuperRamReg1 a s
  | .rdSuperRamReg2 a => Sys2Proof.Machine.execRdSuperRamReg2 a s
  | .rdRam2W0Ram1 a => Sys2Proof.Machine.execRdRam2W0Ram1 a s
  | .rdRam2W0Ram2 a => Sys2Proof.Machine.execRdRam2W0Ram2 a s
  | .rdRam2W0Ram3 a => Sys2Proof.Machine.execRdRam2W0Ram3 a s
  | .rdRam2W1S0 a => Sys2Proof.Machine.execRdRam2W1S0 a s
  | .rdRam2W1S1 a => Sys2Proof.Machine.execRdRam2W1S1 a s
  | .rdRam2W2S0 a => Sys2Proof.Machine.execRdRam2W2S0 a s
  | .rdRam2W2S1 a => Sys2Proof.Machine.execRdRam2W2S1 a s
  | .rdRam2W3S0 a => Sys2Proof.Machine.execRdRam2W3S0 a s
  | .rdRam2W3S1 a => Sys2Proof.Machine.execRdRam2W3S1 a s
  | .rdRam2W5S0 a => Sys2Proof.Machine.execRdRam2W5S0 a s
  | .rdRam2W5S1 a => Sys2Proof.Machine.execRdRam2W5S1 a s
  | .rdRam2Reg1 a => Sys2Proof.Machine.execRdRam2Reg1 a s
  | .rdRam2Reg2 a => Sys2Proof.Machine.execRdRam2Reg2 a s
  | .wrAnyIo2 a => Sys2Proof.Machine.execWrAnyIo2 a s
  | .wrUnusedAny a => Sys2Proof.Machine.execWrUnusedAny a s
  | .wrStartW0Ram1 a => Sys2Proof.Machine.execWrStartW0Ram1 a s
  | .wrStartW0Ram2 a => Sys2Proof.Machine.execWrStartW0Ram2 a s
  | .wrStartW0Ram3 a => Sys2Proof.Machine.execWrStartW0Ram3 a s
  | .wrStartW1 a => Sys2Proof.Machine.execWrStartW1 a s
  | .wrStartW2 a => Sys2Proof.Machine.execWrStartW2 a s
  | .wrStartW3 a => Sys2Proof.Machine.execWrStartW3 a s
  | .wrStartW5 a => Sys2Proof.Machine.execWrStartW5 a s
  | .wrStartReg1 a => Sys2Proof.Machine.execWrStartReg1 a s
  | .wrStartReg2 a => Sys2Proof.Machine.execWrStartReg2 a s
  | .wrFlashW0Ram1 a => Sys2Proof.Machine.execWrFlashW0Ram1 a s
  | .wrFlashW0Ram2 a => Sys2Proof.Machine.execWrFlashW0Ram2 a s
  | .wrFlashW0Ram3 a => Sys2Proof.Machine.execWrFlashW0Ram3 a s
  | .wrFlashW1 a => Sys2Proof.Machine.execWrFlashW1 a s
  | .wrFlashW2 a => Sys2Proof.Machine.execWrFlashW2 a s
  | .wrFlashW3 a => Sys2Proof.Machine.execWrFlashW3 a s
  | .wrFlashW5 a => Sys2Proof.Machine.execWrFlashW5 a s
  | .wrFlashReg1 a => Sys2Proof.Machine.execWrFlashReg1 a s
  | .wrFlashReg2 a => Sys2Proof.Machine.execWrFlashReg2 a s
  | .wrSuperRomW0Ram1 a => Sys2Proof.Machine.execWrSuperRomW0Ram1 a s
  | .wrSuperRomW0Ram2 a => Sys2Proof.Machine.execWrSuperRomW0Ram2 a s
  | .wrSuperRomW0Ram3 a => Sys2Proof.Machine.execWrSuperRomW0Ram3 a s
  | .wrSuperRomW1 a => Sys2Proof.Machine.execWrSuperRomW1 a s
  | .wrSuperRomW2 a => Sys2Proof.Machine.execWrSuperRomW2 a s
  | .wrSuperRomW3 a => Sys2Proof.Machine.execWrSuperRomW3 a s
  | .wrSuperRomW5 a => Sys2Proof.Machine.execWrSuperRomW5 a s
  | .wrSuperRomReg1 a => Sys2Proof.Machine.execWrSuperRomReg1 a s
  | .wrSuperRomReg2 a => Sys2Proof.Machine.execWrSuperRomReg2 a s
  | .wrRamRomW0Ram1 a => Sys2Proof.Machine.execWrRamRomW0Ram1 a s
  | .wrRamRomW0Ram2 a => Sys2Proof.Machine.execWrRamRomW0Ram2 a s
  | .wrRamRomW0Ram3 a => Sys2Proof.Machine.execWrRamRomW0Ram3 a s
  | .wrRamRomW1S0 a => Sys2Proof.Machine.execWrRamRomW1S0 a s
  | .wrRamRomW1S1 a => Sys2Proof.Machine.execWrRamRomW1S1 a s
  | .wrRamRomW2S0 a => Sys2Proof.Machine.execWrRamRomW2S0 a s
  | .wrRamRomW2S1 a => Sys2Proof.Machine.execWrRamRomW2S1 a s
  | .wrRamRomW3S0 a => Sys2Proof.Machine.execWrRamRomW3S0 a s
  | .wrRamRomW3S1 a => Sys2Proof.Machine.execWrRamRomW3S1 a s
  | .wrRamRomW5S0 a => Sys2Proof.Machine.execWrRamRomW5S0 a s
  | .wrRamRomW5S1 a => Sys2Proof.Machine.execWrRamRomW5S1 a s
  | .wrRamRomReg1 a => Sys2Proof.Machine.execWrRamRomReg1 a s
  | .wrRamRomReg2 a => Sys2Proof.Machine.execWrRamRomReg2 a s
  | .wrRam1W0Ram1 a => Sys2Proof.Machine.execWrRam1W0Ram1 a s
  | .wrRam1W0Ram2 a => Sys2Proof.Machine.execWrRam1W0Ram2 a s
  | .wrRam1W0Ram3 a => Sys2Proof.Machine.execWrRam1W0Ram3 a s
  | .wrRam1W1 a => Sys2Proof.Machine.execWrRam1W1 a s
  | .wrRam1W2 a => Sys2Proof.Machine.execWrRam1W2 a s
  | .wrRam1W3 a => Sys2Proof.Machine.execWrRam1W3 a s
  | .wrRam1W5 a => Sys2Proof.Machine.execWrRam1W5 a s
  | .wrRam1Reg1 a => Sys2Proof.Machine.execWrRam1Reg1 a s
  | .wrRam1Reg2 a => Sys2Proof.Machine.execWrRam1Reg2 a s
  | .wrSuperRamW0Ram1 a => Sys2Proof.Machine.execWrSuperRamW0Ram1 a s
  | .wrSuperRamW0Ram2 a => Sys2Proof.Machine.execWrSuperRamW0Ram2 a s
  | .wrSuperRamW0Ram3 a => Sys2Proof.Machine.execWrSuperRamW0Ram3 a s
  | .wrSuperRamW1 a => Sys2Proof.Machine.execWrSuperRamW1 a s
  | .wrSuperRamW2 a => Sys2Proof.Machine.execWrSuperRamW2 a s
  | .wrSuperRamW3 a => Sys2Proof.Machine.execWrSuperRamW3 a s
  | .wrSuperRamW5 a => Sys2Proof.Machine.execWrSuperRamW5 a s
  | .wrSuperRamReg1 a => Sys2Proof.Machine.execWrSuperRamReg1 a s
  | .wrSuperRamReg2 a => Sys2Proof.Machine.execWrSuperRamReg2 a s
  | .wrRam2W0Ram1 a => Sys2Proof.Machine.execWrRam2W0Ram1 a s
  | .wrRam2W0Ram2 a => Sys2Proof.Machine.execWrRam2W0Ram2 a s
  | .wrRam2W0Ram3 a => Sys2Proof.Machine.execWrRam2W0Ram3 a s
  | .wrRam2W1S0 a => Sys2Proof.Machine.execWrRam2W1S0 a s
  | .wrRam2W1S1 a => Sys2Proof.Machine.execWrRam2W1S1 a s
  | .wrRam2W2S0 a => Sys2Proof.Machine.execWrRam2W2S0 a s
  | .wrRam2W2S1 a => Sys2Proof.Machine.execWrRam2W2S1 a s
  | .wrRam2W3S0 a => Sys2Proof.Machine.execWrRam2W3S0 a s
  | .wrRam2W3S1 a => Sys2Proof.Machine.execWrRam2W3S1 a s
  | .wrRam2W5S0 a => Sys2Proof.Machine.execWrRam2W5S0 a s
  | .wrRam2W5S1 a => Sys2Proof.Machine.execWrRam2W5S1 a s
  | .wrRam2Reg1 a => Sys2Proof.Machine.execWrRam2Reg1 a s
  | .wrRam2Reg2 a => Sys2Proof.Machine.execWrRam2Reg2 a s

end Sys2Proof.Machine
end

