-- ==== Sys2Proof/Machine/Transact.lean ====
section
/-! DEFINITION. One transaction as one atomic step (00_scope.md R4; 20_memory.md R34): the rows of the
opcode table are tried in order, every row that fires performs its action, and the decode key is
rebuilt from the current state before each is tried (30_encoding.md R57; 60_exceptions.md R153). -/

namespace Sys2Proof.Machine

/-- The decode key of a transaction word in a state (30_encoding.md R57). -/
def State.key (s : State) (t : TW) : Key :=
  makeKey t s.m s.v s.latch

/-- What stands in `out` when an operation begins: a READ starts with `d <- d_in; drv <- false`
(42_mode_router_read.md R90), a WRITE and a RESET return nothing (30_encoding.md R50, R52). -/
def initialOut : Transaction → Option ReadResult
  | .reset   => none
  | .read a  => some { d := a.data, drv := false }
  | .write _ => none

/-- The state in which the rows of a transaction are tried: its word taken off the queue, and `out`
as the operation begins. -/
def State.begin (s : State) (t : TW) (rest : List TW) : State :=
  { s with pending := rest, out := initialOut (twTransaction t) }

/-- Try the rows of the given slots in order, each against the state left by the one before. -/
def runSlots (t : TW) : List Slot → State → Result
  | [], s => .next s
  | slot :: slots, s =>
    match decodeSlot s.cfg slot (keyView (s.key t)) with
    | none => runSlots t slots s
    | some i =>
      match exec i s with
      | .next s'   => runSlots t slots s'
      | .fault r   => .fault r
      | .refused r => .refused r

/-- One transaction, from the state in which it stands at the head of the queue. -/
def transact (t : TW) (rest : List TW) (s : State) : Result :=
  runSlots t Slot.inOrder (s.begin t rest)

/-- The driver issues a transaction (00_scope.md R4). -/
def State.issue (s : State) (t : TW) : State :=
  { s with pending := s.pending ++ [t] }

/-- Put a decode key in place: its `TW` next in the queue, and `M`, `V`, `L` as it holds them, since
they are bits of the key that select the row (30_encoding.md R57; log entry 7). -/
def State.withKey (s : State) (k : Key) : State :=
  { s with
    m       := (keyView k).m
    v       := (keyView k).v
    latch   := (keyView k).latch
    pending := k.extractLsb' 0 35 :: s.pending }

end Sys2Proof.Machine
end

