-- ==== Sys2Proof/Machine/Step.lean ====
section
/-! DEFINITION. The step: the block answers the oldest transaction the driver has issued; with none
issued it does nothing (00_scope.md R4: the driver is the only agent that acts on the block). -/

namespace Sys2Proof.Machine

/-- One step (00_scope.md R4; 20_memory.md R34, R42). -/
def step (s : State) : Host.Outcome State Fault Refusal :=
  match s.pending with
  | []        => .next s
  | t :: rest => transact t rest s

/-- `s` with the instruction of the table word `w` as what the very next step runs (log entry 7). -/
def State.withFetchWord (s : State) (nbits w : Nat) : State :=
  s.withKey (BitVec.ofNat 52 (w % 2 ^ nbits))

end Sys2Proof.Machine
end

