-- ==== Sys2Proof/Machine/Commands.lean ====
section
/-! DEFINITION. The textual commands and the pseudo-operations as transaction words (30_encoding.md
R61, R62). They are spec/'s own notation, not a property of the hardware (R54, D19). -/

namespace Sys2Proof.Machine

/-- The select lines of a command: the listed signals are asserted, all others are not (R61). -/
def assert (signals : List Signal) : Selects where
  ram1 := signals.contains .ram1
  ram2 := signals.contains .ram2
  ram3 := signals.contains .ram3
  blk1 := signals.contains .blk1
  blk2 := signals.contains .blk2
  blk3 := signals.contains .blk3
  blk5 := signals.contains .blk5
  io2  := signals.contains .io2
  io3  := signals.contains .io3

/-- "`d_in` is 0xFF unless written" (R61). -/
def defaultDIn : Byte := 0xFF

/-- The operation a command stands for (R61). -/
def commandTransaction : Command → Transaction
  | .rst                => .reset
  | .rd off signals dIn => .read { off := off, sel := assert signals, data := dIn.getD defaultDIn }
  | .wr off signals x   => .write { off := off, sel := assert signals, data := x }

/-- The transaction word of a command (R61). -/
def assemble (cmd : Command) : TW :=
  transactionWord (commandTransaction cmd)

/-- The command a pseudo-operation abbreviates (R62). -/
def expandPseudo (e : ModeEnc) : PseudoOp → Command
  | .unlock v          => .wr 0x0000 [.blk5] v
  | .relock            => .rd 0x0000 [.blk5] none
  | .getM              => .rd 0x1C02 [.io3] none
  | .getV              => .rd 0x1C03 [.io3] none
  | .setM v            => .wr 0x1C02 [.io3] v
  | .setV v            => .wr 0x1C03 [.io3] v
  | .setMode mode low5 => .wr 0x1C02 [.io3] (codeOfMode e mode ++ low5)

/-! ### The text of a command -/

/-- A hexadecimal digit. -/
def hexDigit (x : BitVec 4) : Char :=
  if x.toNat < 10 then Char.ofNat (48 + x.toNat) else Char.ofNat (55 + x.toNat)

/-- A byte as two digits. -/
def hexByte (b : Byte) : List Char :=
  [hexDigit (b.extractLsb' 4 4), hexDigit (b.extractLsb' 0 4)]

/-- A hexadecimal literal of four digits. -/
def hexOffset (x : BusOffset) : List Char :=
  ['0', 'x'] ++ hexByte (x.extractLsb' 8 8) ++ hexByte (x.extractLsb' 0 8)

/-- A hexadecimal literal of two digits. -/
def hexValue (b : Byte) : List Char :=
  ['0', 'x'] ++ hexByte b

/-- A signal's name (30_encoding.md R51). -/
def signalText : Signal → List Char
  | .ram1 => ['r', 'a', 'm', '1']
  | .ram2 => ['r', 'a', 'm', '2']
  | .ram3 => ['r', 'a', 'm', '3']
  | .blk1 => ['b', 'l', 'k', '1']
  | .blk2 => ['b', 'l', 'k', '2']
  | .blk3 => ['b', 'l', 'k', '3']
  | .blk5 => ['b', 'l', 'k', '5']
  | .io2  => ['i', 'o', '2']
  | .io3  => ['i', 'o', '3']

/-- The signals in braces (the brace characters are 7B and 7D hexadecimal). -/
def signalsText (signals : List Signal) : List Char :=
  [Char.ofNat 0x7B] ++ List.intercalate [','] (signals.map signalText) ++ [Char.ofNat 0x7D]

/-- A command as text (R61). -/
def commandText : Command → List Char
  | .rst => ['R', 'S', 'T']
  | .rd off signals dIn =>
    ['R', 'D', ' '] ++ hexOffset off ++ [',', ' '] ++ signalsText signals
      ++ (match dIn with
          | none   => []
          | some b => [',', ' ', 'i', 'n', '='] ++ hexValue b)
  | .wr off signals x =>
    ['W', 'R', ' '] ++ hexOffset off ++ [',', ' '] ++ signalsText signals ++ [',', ' ']
      ++ hexValue x

end Sys2Proof.Machine
end

