-- ==== Sys2Proof/Machine/Persist.lean ====
section
/-! DEFINITION. The host's persistence mechanism (10_state.md R26), which is outside the block and no
step of it: "exactly three named state fields". -/

namespace Sys2Proof.Machine

/-- The three saved fields (R26). -/
structure Saved where
  m     : Byte
  v     : Byte
  latch : Bool
  deriving DecidableEq, Repr

/-- What the host saves. -/
def State.save (s : State) : Saved :=
  { m := s.m, v := s.v, latch := s.latch }

/-- What the host restores: the three fields, to any values (R26; D22; log entry 6). -/
def State.restore (s : State) (f : Saved) : State :=
  { s with m := f.m, v := f.v, latch := f.latch }

end Sys2Proof.Machine
end

