-- ==== Sys2Proof/Machine/Procedure.lean ====
section
/-! DEFINITION. READ, WRITE and RESET written directly from the procedures of 42_mode_router_read.md
R90, 43_mode_router_write.md R120 and 70_reset_and_hazards.md R165, with `route_r` and `route_w` and
without the opcode table. The step runs table rows (Machine/Transact.lean); that the two agree is a
statement of the package. -/

namespace Sys2Proof.Machine

/-- `route_r(mode(M), w)` (R96 to R106). START and UNUSED route no window here (R91, R92, R108). -/
def State.routeRead (s : State) (w : Window) : Option (Store × BitVec 7) :=
  match s.mode with
  | .superRom => some (.rom, s.bank)
  | .ram1     => some (.ram, 1)
  | .ram2     => some (.ram, if s.sel w then 2 else 1)
  | .superRam => some (.ram, s.bank)
  | .ramRom   => some (if s.sel w then (.rom, 0) else (.ram, 1))
  | .flash    => some (.rom, s.bank)
  | .start    => none
  | .unused   => none

/-- `route_w(mode(M), w)` (R126 to R136): `route_r`, but for the two places that
ROM_MODE_WRITE_TARGET = RAM sends to RamStore (D14). -/
def State.routeWrite (s : State) (w : Window) : Option (Store × BitVec 7) :=
  match s.mode, s.cfg.romModeWriteTarget with
  | .superRom, .ram => some (.ram, s.bank)
  | .ramRom, .ram   => some (.ram, 1)
  | _, _            => s.routeRead w

/-- The window-0 statement of READ (R94). -/
def State.stmtReadW0 (s : State) (a : Access) : State :=
  if selectsW0 a && s.vis .w0 then s.driveFrom .ram (s.addr 0 0 a) else s

/-- The window statement of READ (R95). -/
def State.stmtReadWindow (w : Window) (a : Access) (s : State) : State :=
  if selectsWindow a w && s.vis (.win w) then
    match s.routeRead w with
    | some (st, bank) => s.driveFrom st (s.addr bank (blockOf w) a)
    | none            => s
  else s

/-- The window-5 statement of READ in START (R92). -/
def State.stmtReadStartW5 (s : State) (a : Access) : State :=
  if a.sel.blk5 && startW5Open s.cfg s.v then (s.driveFrom .rom (s.addr 0 3 a)).lock else s

/-- The register statement of READ (41_register_port.md R83). -/
def State.stmtReadReg (a : Access) (s : State) : State :=
  if s.granted a then s.drive (s.reg (regNo a)) else s

/-- READ (R90), after `d <- d_in; drv <- false`. -/
def State.readProcedure (s : State) (a : Access) : State :=
  match s.mode with
  | .start  => (s.stmtReadStartW5 a).stmtReadReg a
  | .unused => s
  | _       =>
    ((((((s.stmtReadW0 a).stmtReadWindow .w1 a).stmtReadWindow .w2 a).stmtReadWindow .w3 a).stmtReadWindow
      .w5 a).stmtReadReg a)

/-- The window-0 statement of WRITE (R124). -/
def State.stmtWriteW0 (s : State) (a : Access) : State :=
  if selectsW0 a && s.vis .w0 then s.storeTo .ram (s.addr 0 0 a) a.data else s

/-- The window statement of WRITE (R125). -/
def State.stmtWriteWindow (w : Window) (a : Access) (s : State) : State :=
  if selectsWindow a w && s.vis (.win w) then
    match s.routeWrite w with
    | some (st, bank) => s.storeTo st (s.addr bank (blockOf w) a) a.data
    | none            => s
  else s

/-- The window-5 statement of WRITE in START (R122). -/
def State.stmtWriteStartW5 (s : State) (a : Access) : State :=
  if a.sel.blk5 && startW5Open s.cfg s.v then
    (s.storeTo .ram (s.addr 1 3 a) a.data).unlock
  else s

/-- The register statement of WRITE (41_register_port.md R84). -/
def State.stmtWriteReg (a : Access) (s : State) : State :=
  if s.granted a then s.setReg (regNo a) a.data else s

/-- WRITE (R120). -/
def State.writeProcedure (s : State) (a : Access) : State :=
  match s.mode with
  | .start  => (s.stmtWriteStartW5 a).stmtWriteReg a
  | .unused => s
  | _       =>
    ((((((s.stmtWriteW0 a).stmtWriteWindow .w1 a).stmtWriteWindow .w2 a).stmtWriteWindow .w3
      a).stmtWriteWindow .w5 a).stmtWriteReg a)

/-- The operation a transaction word stands for, as R90, R120 and R165 give it. -/
def State.procedure (s : State) (tx : Transaction) : State :=
  match tx with
  | .reset   => s.resetRegisters
  | .read a  => s.readProcedure a
  | .write a => s.writeProcedure a

end Sys2Proof.Machine
end

