-- ==== Sys2Proof/Safety.lean ====
section
/-! DEFINITION. What counts as a safe run, in the terms the statements use: the state invariant, an
access that real hardware can make, and the runs of the machine. -/

namespace Sys2Proof.Machine

/-- The parameters meet what 30_encoding.md R55 asks of MODE_ENC. -/
def configWf (c : Config) : Bool :=
  c.modeEnc.wf

/-- Both stores are in canonical form (log entry 8). -/
def storesWf (s : State) : Bool :=
  memWf s.ram && romWf s.rom

/-- 10_state.md R24: outside START the latch is clear. -/
def latchClearOutsideStart (s : State) : Bool :=
  s.mode == .start || !s.latch

/-- The invariant of every state reachable from RESET. -/
def inv (s : State) : Bool :=
  configWf s.cfg && storesWf s && latchClearOutsideStart s

/-- The window conditions of which real hardware meets at most one per access: the window-0 group,
blk1, blk2, blk3, blk5 and io3 (70_reset_and_hazards.md R175). -/
def selectedRegions (a : Access) : Nat :=
  (selectsW0 a).toNat + a.sel.blk1.toNat + a.sel.blk2.toNat + a.sel.blk3.toNat + a.sel.blk5.toNat
    + a.sel.io3.toNat

/-- A bus driver that models real hardware: at most one region selected (R175). -/
def exclusive (a : Access) : Bool :=
  selectedRegions a ≤ 1

/-- The word is not a RESET (30_encoding.md R54). -/
def notReset (t : TW) : Bool :=
  !t.getLsbD 34

/-- `k` steps of the machine. -/
def run (k : Nat) (s : State) : Result :=
  core.run k s

/-! ### How an instruction completes

Each of these says that the instruction answers a next state, what it changes, and that it changes
nothing else. -/

/-- The instruction completes and changes nothing: "a silent no-op" (42_mode_router_read.md R110). -/
def noEffect (i : Instr) (s : State) : Prop :=
  exec i s = .next s

/-- The instruction completes, drives the given byte, and changes nothing else. -/
def drivesByte (i : Instr) (s : State) (b : Byte) : Prop :=
  exec i s = .next { s with out := some { d := b, drv := true } }

/-- The instruction completes, drives `RAM[p]`, and changes nothing else. -/
def drivesRam (i : Instr) (s : State) (p : PhysAddr) : Prop :=
  drivesByte i s (memRead s.ram p.toNat)

/-- The instruction completes, drives `RomRead(p)`, leaves the external device as that call leaves it,
and changes nothing else. -/
def drivesRom (i : Instr) (s : State) (p : PhysAddr) : Prop :=
  exec i s = .next
    { s with
      rom := (romRead s.rom p).2
      out := some { d := (romRead s.rom p).1, drv := true } }

/-- The instruction completes, calls `RomWrite(p, b)`, and changes nothing else. -/
def storesRom (i : Instr) (s : State) (p : PhysAddr) (b : Byte) : Prop :=
  exec i s = .next { s with rom := romWrite s.rom p b }

/-- `t` is `s` with `RAM[p] <- b`: that byte is `b`, every other byte of RAM reads as before, and
nothing else differs. -/
def ramStored (s t : State) (p : PhysAddr) (b : Byte) : Prop :=
  memRead t.ram p.toNat = b ∧ (∀ x, x ≠ p.toNat → memRead t.ram x = memRead s.ram x) ∧
    memWf t.ram = true ∧ t = { s with ram := t.ram }

/-- The instruction completes, stores one byte of RAM, and changes nothing else. -/
def storesRam (i : Instr) (s : State) (p : PhysAddr) (b : Byte) : Prop :=
  ∃ t, exec i s = .next t ∧ ramStored s t p b

/-! ### What a whole access meets -/

/-- No statement of the READ or WRITE procedure has its condition met (42_mode_router_read.md R90;
43_mode_router_write.md R120). -/
def quiet (s : State) (a : Access) : Bool :=
  match s.mode with
  | .unused => true
  | .start  => !(a.sel.blk5 && startW5Open s.cfg s.v) && !s.granted a
  | _       =>
    !(selectsW0 a && s.vis .w0) && !(a.sel.blk1 && s.vis (.win .w1)) &&
      !(a.sel.blk2 && s.vis (.win .w2)) && !(a.sel.blk3 && s.vis (.win .w3)) &&
      !(a.sel.blk5 && s.vis (.win .w5)) && !s.granted a

/-- The number of select signals asserted. -/
def signalsAsserted (sel : Selects) : Nat :=
  sel.ram1.toNat + sel.ram2.toNat + sel.ram3.toNat + sel.blk1.toNat + sel.blk2.toNat
    + sel.blk3.toNat + sel.blk5.toNat + sel.io2.toNat + sel.io3.toNat

/-- The access selects the given region and no other (io2, which no rule examines, aside). -/
def selectsOnly (a : Access) : Region → Bool
  | .w0    => selectsW0 a && !a.sel.blk1 && !a.sel.blk2 && !a.sel.blk3 && !a.sel.blk5 && !a.sel.io3
  | .win w => selectsWindow a w && decide (selectedRegions a = 1)
  | .reg   => a.sel.io3 && decide (selectedRegions a = 1)

end Sys2Proof.Machine
end

