-- ==== Sys2Proof/Certificates/Slice0/Obligations.lean ====
section
/-! DEFINITION. The statements for the provers. -/

open Sys2Proof Sys2Proof.Machine

/-- O1. For every injective MODE_ENC with START at 0, every other parameter at its default (MODE_POS,
SEL_BIT, VIS_BIT, VIS_POLARITY, REG_SIGNAL and START_W5_VIS_GATED among them: decisions D1, D4,
D5, D6, D7, D9 of the spec; log entry 2), and every well-formed instruction, whatever offset,
select signals and data byte it carries, the row that the decoder (written from the READ and WRITE
procedures) fires at the slot of the instruction, for the key that the encoder (written from the
match words of the opcode table, mode bits rewritten as R57 says) makes of it, is that instruction
with all its operands. -/
def Obligations.DecodeEncodeAgree : Prop :=
  ∀ (e : ModeEnc) (i : Instr), e.wf = true → i.wellFormed = true →
    decodeSlot { defaultConfig with modeEnc := e } i.slot (keyView (encodeWith e i)) = some i

/-- O2. For every 52-bit decode key and every instruction, under the default parameters: the decoder
fires that instruction at its slot if and only if (K & mask) == match for its row of the opcode
table and the instruction carries the access of the key; and the decoder fires an instruction at
no other slot than its own. Rests on the defaults of the mode, select and hide bits and of the
register window's signal (decisions D1, D2, D4, D5, D6, D7 of the spec, and D9 for window 5 of
START; log entry 2). -/
def Obligations.DecoderAgreesWithOpcodeTable : Prop :=
  ∀ (k : Key) (i : Instr),
    (decodeSlot defaultConfig i.slot (keyView k) = some i ↔
      k &&& i.row.mask = i.row.pattern ∧ instrTransaction i = (keyView k).tx) ∧
    ∀ slot, decodeSlot defaultConfig slot (keyView k) = some i → slot = i.slot

/-- O3. Every 35-bit transaction word with RST clear is the word written for the operation and access
that are read from it: reading a word drops none of its bits. -/
def Obligations.TransactionWordsReadBack : Prop :=
  ∀ t : TW, t.getLsbD 34 = false → transactionWord (twTransaction t) = t

/-- O4. Seven keys K of section 2.6 of the test vectors, one for each family, decode to RESET,
RD.START.W5, WR.START.W5, RD.START.REG1, WR.RAM_2.REG2, RD.RAM_ROM.W1.S1 and RD.RAM_ROM.W0.RAM3
with the offset and data byte of the transaction. A sanity statement on fixed words. -/
def Obligations.KnownKeysDecode : Prop :=
  decodeTableWord 52 0x3052C00000000 = some .reset ∧
  decodeTableWord 52 0x80000400000FF =
    some (.rdStartW5 { off := 0x0000, sel := assert [.blk5], data := 0xFF }) ∧
  decodeTableWord 52 0x8000240000042 =
    some (.wrStartW5 { off := 0x0000, sel := assert [.blk5], data := 0x42 }) ∧
  decodeTableWord 52 0x00001001C02FF =
    some (.rdStartReg1 { off := 0x1C02, sel := assert [.io3], data := 0xFF }) ∧
  decodeTableWord 52 0x00623001C0320 =
    some (.wrRam2Reg2 { off := 0x1C03, sel := assert [.io3], data := 0x20 }) ∧
  decodeTableWord 52 0x00310080007FF =
    some (.rdRamRomW1S1 { off := 0x0007, sel := assert [.blk1], data := 0xFF }) ∧
  decodeTableWord 52 0x00310040400FF =
    some (.rdRamRomW0Ram3 { off := 0x0400, sel := assert [.ram3], data := 0xFF })

/-- O5. For every injective MODE_ENC with START at 0: the mode field value of each of the eight modes
(UNUSED among them) decodes to that mode, and a value decodes to UNUSED exactly when it is the one
value that names no mode. -/
def Obligations.ModeEncodingInvertible : Prop :=
  ∀ e : ModeEnc, e.wf = true →
    (∀ md, modeOfCode e (codeOfMode e md) = md) ∧
    ∀ x, modeOfCode e x = .unused ↔ x = unusedCode e

/-- O6. Under the default parameters of R7: M & 0xE0 selects the mode by the default MODE_ENC, BANK is
M mod 16, the select bits of windows 1, 2, 3, 5 are M[1] to M[4], and windows 0, 1, 2, 3, 5 and
the register window are visible exactly when V[0] to V[4] and V[7] are 0. These positions, values
and the polarity are choices of the spec (decisions D1 to D6; log entry 2). -/
def Obligations.RegisterFieldDefaults : Prop :=
  ∀ s : State, s.cfg = defaultConfig →
    (s.mode =
      if s.m &&& 0xE0 = 0x00 then .start else if s.m &&& 0xE0 = 0x20 then .flash
      else if s.m &&& 0xE0 = 0x40 then .superRom else if s.m &&& 0xE0 = 0x60 then .ramRom
      else if s.m &&& 0xE0 = 0x80 then .ram1 else if s.m &&& 0xE0 = 0xA0 then .superRam
      else if s.m &&& 0xE0 = 0xC0 then .ram2 else .unused) ∧
    s.bank.toNat = s.m.toNat % 16 ∧
    s.sel .w1 = s.m.getLsbD 1 ∧ s.sel .w2 = s.m.getLsbD 2 ∧ s.sel .w3 = s.m.getLsbD 3 ∧
    s.sel .w5 = s.m.getLsbD 4 ∧
    s.vis .w0 = !s.v.getLsbD 0 ∧ s.vis (.win .w1) = !s.v.getLsbD 1 ∧
    s.vis (.win .w2) = !s.v.getLsbD 2 ∧ s.vis (.win .w3) = !s.v.getLsbD 3 ∧
    s.vis (.win .w5) = !s.v.getLsbD 4 ∧ s.vis .reg = !s.v.getLsbD 7

/-- O7. An offset matches the register window exactly when its bits 12, 11, 10 and 1 are all set; it
names register 1 exactly when (offset & 0x1C03) == 0x1C02 and register 2 exactly when (offset &
0x1C03) == 0x1C03; the other eleven bits are free: offsets that agree on those five bits match
alike and name the same register. -/
def Obligations.RegisterWindowMatch : Prop :=
  ∀ a b : Access,
    (regMatch a = true ↔ a.off.getLsbD 12 = true ∧ a.off.getLsbD 11 = true ∧
      a.off.getLsbD 10 = true ∧ a.off.getLsbD 1 = true) ∧
    (regMatch a = true ∧ regNo a = false ↔ a.off &&& 0x1C03 = 0x1C02) ∧
    (regMatch a = true ∧ regNo a = true ↔ a.off &&& 0x1C03 = 0x1C03) ∧
    (a.off &&& 0x1C03 = b.off &&& 0x1C03 → regMatch a = regMatch b ∧ regNo a = regNo b)

/-- O8. Under the default parameters an access is granted exactly when io3 is asserted, offset &
0x1C02 is 0x1C02, and: in mode START the latch is clear; in mode UNUSED never; in every other mode
V[7] is 0. The choice of io3, the positions and the START, UNUSED and other cases are decisions
D1, D2, D5 to D8 and D13 of the spec (log entry 2; the gate itself, D8 and D13: log entry 9). -/
def Obligations.RegisterGate : Prop :=
  ∀ (s : State) (a : Access), s.cfg = defaultConfig →
    (s.granted a = true ↔ a.sel.io3 = true ∧ a.off &&& 0x1C02 = 0x1C02 ∧
      (if s.m &&& 0xE0 = 0x00 then s.latch = false
       else if s.m &&& 0xE0 = 0xE0 then False
       else s.v.getLsbD 7 = false))

/-- O9. For every V, bank (0..127), block and 13-bit offset, under the default BANK_MASK: the physical
offset is ((bank & 0xF) << 15) | ((block ^ ((V >> 5) & 0b11)) << 13) | off, and the source's own
formula (bank << 15) | (effective_block << 13) | off modulo 0x80000. That the bank is masked and
not clamped is decision D3 of the spec (log entry 2). -/
def Obligations.TranslateFormula : Prop :=
  ∀ (c : Config) (v : Byte) (bank : BitVec 7) (block : BitVec 2) (off : BitVec 13),
    c.bankMask = 0xF →
    (translate c v bank block off).toNat =
      (((bank.toNat &&& 0xF) <<< 15) ||| ((block.toNat ^^^ ((v.toNat >>> 5) &&& 0b11)) <<< 13)
        ||| off.toNat) ∧
    (translate c v bank block off).toNat =
      ((bank.toNat <<< 15) ||| ((block.toNat ^^^ ((v.toNat >>> 5) &&& 0b11)) <<< 13)
        ||| off.toNat) % 0x80000

/-- O10. For every V, under the default BANK_MASK: on banks 0 to 15 the translator is injective in
(bank, block, offset) and returns a value below 0x80000, every physical offset of the store is the
image of such a triple, and on banks 0 to 127 T(b, k, o) = T(b & 0xF, k, o). R74 quotes
injectivity and the range from the source; that T is onto the store is the inference that R74
marks as its own; that a bank above 15 is masked and not clamped is decision D3 of the spec (log
entry 2). The range clause also holds by the 19 bits of the result alone. -/
def Obligations.TranslateBijective : Prop :=
  ∀ (c : Config) (v : Byte), c.bankMask = 0xF →
    (∀ (b b' : BitVec 7) (k k' : BitVec 2) (o o' : BitVec 13), b.toNat < 16 → b'.toNat < 16 →
      translate c v b k o = translate c v b' k' o' → b = b' ∧ k = k' ∧ o = o') ∧
    (∀ (b : BitVec 7) (k : BitVec 2) (o : BitVec 13), (translate c v b k o).toNat < 0x80000) ∧
    (∀ p : PhysAddr, ∃ (b : BitVec 7) (k : BitVec 2) (o : BitVec 13),
      b.toNat < 16 ∧ translate c v b k o = p) ∧
    (∀ (b : BitVec 7) (k : BitVec 2) (o : BitVec 13),
      translate c v b k o = translate c v (b &&& 0xF) k o)

/-- O11. For every V, bank, block and offset and all parameters: T with V is T without a swap (V[6:5]
= 0) at block XOR V[6:5]; so E7: with V[6:5] = 0b01, block 0 is where block 1 is with no swap; and
distinct blocks stay distinct. -/
def Obligations.TranslateSwapsBlocks : Prop :=
  ∀ (c : Config) (v : Byte) (bank : BitVec 7) (off : BitVec 13),
    (∀ block : BitVec 2, translate c v bank block off =
      translate c (v &&& 0x9F) bank (block ^^^ (v.extractLsb' 5 2)) off) ∧
    (v.extractLsb' 5 2 = 1 → translate c v bank 0 off = translate c 0 bank 1 off) ∧
    ∀ k k' : BitVec 2, translate c v bank k off = translate c v bank k' off → k = k'

/-- O12. Two states with the same parameters and the same V[6:5] give every bank, block and access the
same physical offset, whatever else differs; and under the default BANK_MASK the offset is the sum
bank*0x8000 + effective block*0x2000 + offset mod 0x2000, the bank counted mod 16. -/
def Obligations.TranslateReadsOnlySwap : Prop :=
  ∀ (s t : State) (bank : BitVec 7) (block : BitVec 2) (a : Access),
    (s.cfg = t.cfg → s.v.extractLsb' 5 2 = t.v.extractLsb' 5 2 →
      s.addr bank block a = t.addr bank block a) ∧
    (s.cfg.bankMask = 0xF → (s.addr bank block a).toNat =
      (bank.toNat % 16) * 0x8000 + (block ^^^ s.v.extractLsb' 5 2).toNat * 0x2000
        + a.off.toNat % 0x2000)

/-- O13. RD.START.W0.RAM1, .RAM2, .RAM3, RD.START.W1, .W2, .W3 complete in every state and change
nothing: no store is read, d and drv, the latch and everything else are unchanged.
Formalises R91. -/
def Obligations.ReadStartNoAccess : Prop :=
  ∀ (s : State) (a : Access),
    noEffect (.rdStartW0Ram1 a) s ∧
    noEffect (.rdStartW0Ram2 a) s ∧
    noEffect (.rdStartW0Ram3 a) s ∧
    noEffect (.rdStartW1 a) s ∧
    noEffect (.rdStartW2 a) s ∧
    noEffect (.rdStartW3 a) s

/-- O14. In mode START with blk5 asserted: when window 5 answers (its hide bit clear, or
START_W5_VIS_GATED false), RD.START.W5 drives RomRead(T(0, 3, off13)), sets the latch whatever it
was, and changes nothing else; when it is hidden, it changes nothing. That the hide bit gates
window 5 in START is decision D9 of the spec (log entry 2). -/
def Obligations.ReadStartWindow5 : Prop :=
  ∀ (s : State) (a : Access), s.mode = .start → a.sel.blk5 = true →
    if s.vis (.win .w5) = true ∨ s.cfg.startW5VisGated = false then
      exec (.rdStartW5 a) s = .next
        { s with
          rom   := (romRead s.rom (s.addr 0 3 a)).2
          out   := some { d := (romRead s.rom (s.addr 0 3 a)).1, drv := true }
          latch := true }
    else noEffect (.rdStartW5 a) s

/-- O15. For each of the seven modes: RD.<mode>.REG1 with offset bit 0 clear drives M, and
RD.<mode>.REG2 with offset bit 0 set drives V, all eight bits as stored, when the access is
granted (the gate of R82 in the current state, by readings D8 and D13 of the spec, log entry 9: in
START the latch, elsewhere V[7]); when it is not granted nothing changes. -/
def Obligations.ReadRegisters : Prop :=
  ∀ (s : State) (a : Access),
    (s.mode = .start → regNo a = false →
      if s.granted a = true then drivesByte (.rdStartReg1 a) s s.m else noEffect (.rdStartReg1 a) s) ∧
    (s.mode = .start → regNo a = true →
      if s.granted a = true then drivesByte (.rdStartReg2 a) s s.v else noEffect (.rdStartReg2 a) s) ∧
    (s.mode = .flash → regNo a = false →
      if s.granted a = true then drivesByte (.rdFlashReg1 a) s s.m else noEffect (.rdFlashReg1 a) s) ∧
    (s.mode = .flash → regNo a = true →
      if s.granted a = true then drivesByte (.rdFlashReg2 a) s s.v else noEffect (.rdFlashReg2 a) s) ∧
    (s.mode = .superRom → regNo a = false →
      if s.granted a = true then drivesByte (.rdSuperRomReg1 a) s s.m else noEffect (.rdSuperRomReg1 a) s) ∧
    (s.mode = .superRom → regNo a = true →
      if s.granted a = true then drivesByte (.rdSuperRomReg2 a) s s.v else noEffect (.rdSuperRomReg2 a) s) ∧
    (s.mode = .ramRom → regNo a = false →
      if s.granted a = true then drivesByte (.rdRamRomReg1 a) s s.m else noEffect (.rdRamRomReg1 a) s) ∧
    (s.mode = .ramRom → regNo a = true →
      if s.granted a = true then drivesByte (.rdRamRomReg2 a) s s.v else noEffect (.rdRamRomReg2 a) s) ∧
    (s.mode = .ram1 → regNo a = false →
      if s.granted a = true then drivesByte (.rdRam1Reg1 a) s s.m else noEffect (.rdRam1Reg1 a) s) ∧
    (s.mode = .ram1 → regNo a = true →
      if s.granted a = true then drivesByte (.rdRam1Reg2 a) s s.v else noEffect (.rdRam1Reg2 a) s) ∧
    (s.mode = .superRam → regNo a = false →
      if s.granted a = true then drivesByte (.rdSuperRamReg1 a) s s.m else noEffect (.rdSuperRamReg1 a) s) ∧
    (s.mode = .superRam → regNo a = true →
      if s.granted a = true then drivesByte (.rdSuperRamReg2 a) s s.v else noEffect (.rdSuperRamReg2 a) s) ∧
    (s.mode = .ram2 → regNo a = false →
      if s.granted a = true then drivesByte (.rdRam2Reg1 a) s s.m else noEffect (.rdRam2Reg1 a) s) ∧
    (s.mode = .ram2 → regNo a = true →
      if s.granted a = true then drivesByte (.rdRam2Reg2 a) s s.v else noEffect (.rdRam2Reg2 a) s)

/-- O16. For each mode SUPER_ROM, RAM_1, RAM_2, SUPER_RAM, RAM_ROM and FLASH and each of ram1, ram2,
ram3: RD.<mode>.W0.RAM<k> with its signal asserted drives RAM[T(0, 0, off13)] when window 0 is
visible and changes nothing else; when it is hidden it changes nothing.
Formalises R94. -/
def Obligations.ReadFixedLowWindow : Prop :=
  ∀ (s : State) (a : Access),
    (s.mode = .flash → a.sel.ram1 = true →
      if s.vis .w0 = true then drivesRam (.rdFlashW0Ram1 a) s (s.addr 0 0 a) else noEffect (.rdFlashW0Ram1 a) s) ∧
    (s.mode = .flash → a.sel.ram2 = true →
      if s.vis .w0 = true then drivesRam (.rdFlashW0Ram2 a) s (s.addr 0 0 a) else noEffect (.rdFlashW0Ram2 a) s) ∧
    (s.mode = .flash → a.sel.ram3 = true →
      if s.vis .w0 = true then drivesRam (.rdFlashW0Ram3 a) s (s.addr 0 0 a) else noEffect (.rdFlashW0Ram3 a) s) ∧
    (s.mode = .superRom → a.sel.ram1 = true →
      if s.vis .w0 = true then drivesRam (.rdSuperRomW0Ram1 a) s (s.addr 0 0 a) else noEffect (.rdSuperRomW0Ram1 a) s) ∧
    (s.mode = .superRom → a.sel.ram2 = true →
      if s.vis .w0 = true then drivesRam (.rdSuperRomW0Ram2 a) s (s.addr 0 0 a) else noEffect (.rdSuperRomW0Ram2 a) s) ∧
    (s.mode = .superRom → a.sel.ram3 = true →
      if s.vis .w0 = true then drivesRam (.rdSuperRomW0Ram3 a) s (s.addr 0 0 a) else noEffect (.rdSuperRomW0Ram3 a) s) ∧
    (s.mode = .ramRom → a.sel.ram1 = true →
      if s.vis .w0 = true then drivesRam (.rdRamRomW0Ram1 a) s (s.addr 0 0 a) else noEffect (.rdRamRomW0Ram1 a) s) ∧
    (s.mode = .ramRom → a.sel.ram2 = true →
      if s.vis .w0 = true then drivesRam (.rdRamRomW0Ram2 a) s (s.addr 0 0 a) else noEffect (.rdRamRomW0Ram2 a) s) ∧
    (s.mode = .ramRom → a.sel.ram3 = true →
      if s.vis .w0 = true then drivesRam (.rdRamRomW0Ram3 a) s (s.addr 0 0 a) else noEffect (.rdRamRomW0Ram3 a) s) ∧
    (s.mode = .ram1 → a.sel.ram1 = true →
      if s.vis .w0 = true then drivesRam (.rdRam1W0Ram1 a) s (s.addr 0 0 a) else noEffect (.rdRam1W0Ram1 a) s) ∧
    (s.mode = .ram1 → a.sel.ram2 = true →
      if s.vis .w0 = true then drivesRam (.rdRam1W0Ram2 a) s (s.addr 0 0 a) else noEffect (.rdRam1W0Ram2 a) s) ∧
    (s.mode = .ram1 → a.sel.ram3 = true →
      if s.vis .w0 = true then drivesRam (.rdRam1W0Ram3 a) s (s.addr 0 0 a) else noEffect (.rdRam1W0Ram3 a) s) ∧
    (s.mode = .superRam → a.sel.ram1 = true →
      if s.vis .w0 = true then drivesRam (.rdSuperRamW0Ram1 a) s (s.addr 0 0 a) else noEffect (.rdSuperRamW0Ram1 a) s) ∧
    (s.mode = .superRam → a.sel.ram2 = true →
      if s.vis .w0 = true then drivesRam (.rdSuperRamW0Ram2 a) s (s.addr 0 0 a) else noEffect (.rdSuperRamW0Ram2 a) s) ∧
    (s.mode = .superRam → a.sel.ram3 = true →
      if s.vis .w0 = true then drivesRam (.rdSuperRamW0Ram3 a) s (s.addr 0 0 a) else noEffect (.rdSuperRamW0Ram3 a) s) ∧
    (s.mode = .ram2 → a.sel.ram1 = true →
      if s.vis .w0 = true then drivesRam (.rdRam2W0Ram1 a) s (s.addr 0 0 a) else noEffect (.rdRam2W0Ram1 a) s) ∧
    (s.mode = .ram2 → a.sel.ram2 = true →
      if s.vis .w0 = true then drivesRam (.rdRam2W0Ram2 a) s (s.addr 0 0 a) else noEffect (.rdRam2W0Ram2 a) s) ∧
    (s.mode = .ram2 → a.sel.ram3 = true →
      if s.vis .w0 = true then drivesRam (.rdRam2W0Ram3 a) s (s.addr 0 0 a) else noEffect (.rdRam2W0Ram3 a) s)

/-- O17. In mode SUPER_ROM each of RD.SUPER_ROM.W1, .W2, .W3, .W5 with its signal asserted drives
RomRead(T(BANK, blk(w), off13)) when its window is visible and changes nothing but the external
device's own state; when hidden it changes nothing.
Formalises R96. -/
def Obligations.ReadSuperRomWindows : Prop :=
  ∀ (s : State) (a : Access), s.mode = .superRom →
    (a.sel.blk1 = true →
      if s.vis (.win .w1) = true then drivesRom (.rdSuperRomW1 a) s (s.addr s.bank 0 a)
      else noEffect (.rdSuperRomW1 a) s) ∧
    (a.sel.blk2 = true →
      if s.vis (.win .w2) = true then drivesRom (.rdSuperRomW2 a) s (s.addr s.bank 1 a)
      else noEffect (.rdSuperRomW2 a) s) ∧
    (a.sel.blk3 = true →
      if s.vis (.win .w3) = true then drivesRom (.rdSuperRomW3 a) s (s.addr s.bank 2 a)
      else noEffect (.rdSuperRomW3 a) s) ∧
    (a.sel.blk5 = true →
      if s.vis (.win .w5) = true then drivesRom (.rdSuperRomW5 a) s (s.addr s.bank 3 a)
      else noEffect (.rdSuperRomW5 a) s)

/-- O18. In mode FLASH each of RD.FLASH.W1, .W2, .W3, .W5 with its signal asserted drives
RomRead(T(BANK, blk(w), off13)) when its window is visible and changes nothing but the external
device's own state; when hidden it changes nothing.
Formalises R106. -/
def Obligations.ReadFlashWindows : Prop :=
  ∀ (s : State) (a : Access), s.mode = .flash →
    (a.sel.blk1 = true →
      if s.vis (.win .w1) = true then drivesRom (.rdFlashW1 a) s (s.addr s.bank 0 a)
      else noEffect (.rdFlashW1 a) s) ∧
    (a.sel.blk2 = true →
      if s.vis (.win .w2) = true then drivesRom (.rdFlashW2 a) s (s.addr s.bank 1 a)
      else noEffect (.rdFlashW2 a) s) ∧
    (a.sel.blk3 = true →
      if s.vis (.win .w3) = true then drivesRom (.rdFlashW3 a) s (s.addr s.bank 2 a)
      else noEffect (.rdFlashW3 a) s) ∧
    (a.sel.blk5 = true →
      if s.vis (.win .w5) = true then drivesRom (.rdFlashW5 a) s (s.addr s.bank 3 a)
      else noEffect (.rdFlashW5 a) s)

/-- O19. In mode RAM_1 each of RD.RAM_1.W1, .W2, .W3, .W5 with its signal asserted drives RAM[T(1,
blk(w), off13)] when its window is visible and changes nothing else, whatever M[4:0] holds; when
hidden it changes nothing.
Formalises R98. -/
def Obligations.ReadRam1Windows : Prop :=
  ∀ (s : State) (a : Access), s.mode = .ram1 →
    (a.sel.blk1 = true →
      if s.vis (.win .w1) = true then drivesRam (.rdRam1W1 a) s (s.addr 1 0 a)
      else noEffect (.rdRam1W1 a) s) ∧
    (a.sel.blk2 = true →
      if s.vis (.win .w2) = true then drivesRam (.rdRam1W2 a) s (s.addr 1 1 a)
      else noEffect (.rdRam1W2 a) s) ∧
    (a.sel.blk3 = true →
      if s.vis (.win .w3) = true then drivesRam (.rdRam1W3 a) s (s.addr 1 2 a)
      else noEffect (.rdRam1W3 a) s) ∧
    (a.sel.blk5 = true →
      if s.vis (.win .w5) = true then drivesRam (.rdRam1W5 a) s (s.addr 1 3 a)
      else noEffect (.rdRam1W5 a) s)

/-- O20. In mode RAM_2 each of RD.RAM_2.W<w>.S0 and .S1 with its signal asserted and the window's
select bit at its value drives RAM[T(1, blk(w), off13)] or RAM[T(2, blk(w), off13)] when its
window is visible and changes nothing else; when hidden it changes nothing.
Formalises R100. -/
def Obligations.ReadRam2Windows : Prop :=
  ∀ (s : State) (a : Access), s.mode = .ram2 →
    (a.sel.blk1 = true → s.sel .w1 = false →
      if s.vis (.win .w1) = true then drivesRam (.rdRam2W1S0 a) s (s.addr 1 0 a)
      else noEffect (.rdRam2W1S0 a) s) ∧
    (a.sel.blk1 = true → s.sel .w1 = true →
      if s.vis (.win .w1) = true then drivesRam (.rdRam2W1S1 a) s (s.addr 2 0 a)
      else noEffect (.rdRam2W1S1 a) s) ∧
    (a.sel.blk2 = true → s.sel .w2 = false →
      if s.vis (.win .w2) = true then drivesRam (.rdRam2W2S0 a) s (s.addr 1 1 a)
      else noEffect (.rdRam2W2S0 a) s) ∧
    (a.sel.blk2 = true → s.sel .w2 = true →
      if s.vis (.win .w2) = true then drivesRam (.rdRam2W2S1 a) s (s.addr 2 1 a)
      else noEffect (.rdRam2W2S1 a) s) ∧
    (a.sel.blk3 = true → s.sel .w3 = false →
      if s.vis (.win .w3) = true then drivesRam (.rdRam2W3S0 a) s (s.addr 1 2 a)
      else noEffect (.rdRam2W3S0 a) s) ∧
    (a.sel.blk3 = true → s.sel .w3 = true →
      if s.vis (.win .w3) = true then drivesRam (.rdRam2W3S1 a) s (s.addr 2 2 a)
      else noEffect (.rdRam2W3S1 a) s) ∧
    (a.sel.blk5 = true → s.sel .w5 = false →
      if s.vis (.win .w5) = true then drivesRam (.rdRam2W5S0 a) s (s.addr 1 3 a)
      else noEffect (.rdRam2W5S0 a) s) ∧
    (a.sel.blk5 = true → s.sel .w5 = true →
      if s.vis (.win .w5) = true then drivesRam (.rdRam2W5S1 a) s (s.addr 2 3 a)
      else noEffect (.rdRam2W5S1 a) s)

/-- O21. In mode SUPER_RAM each of RD.SUPER_RAM.W1, .W2, .W3, .W5 with its signal asserted drives
RAM[T(BANK, blk(w), off13)] when its window is visible and changes nothing else; when hidden it
changes nothing.
Formalises R102. -/
def Obligations.ReadSuperRamWindows : Prop :=
  ∀ (s : State) (a : Access), s.mode = .superRam →
    (a.sel.blk1 = true →
      if s.vis (.win .w1) = true then drivesRam (.rdSuperRamW1 a) s (s.addr s.bank 0 a)
      else noEffect (.rdSuperRamW1 a) s) ∧
    (a.sel.blk2 = true →
      if s.vis (.win .w2) = true then drivesRam (.rdSuperRamW2 a) s (s.addr s.bank 1 a)
      else noEffect (.rdSuperRamW2 a) s) ∧
    (a.sel.blk3 = true →
      if s.vis (.win .w3) = true then drivesRam (.rdSuperRamW3 a) s (s.addr s.bank 2 a)
      else noEffect (.rdSuperRamW3 a) s) ∧
    (a.sel.blk5 = true →
      if s.vis (.win .w5) = true then drivesRam (.rdSuperRamW5 a) s (s.addr s.bank 3 a)
      else noEffect (.rdSuperRamW5 a) s)

/-- O22. In mode RAM_ROM each of RD.RAM_ROM.W<w>.S0 and .S1 with its signal asserted and the window's
select bit at its value drives RAM[T(1, blk(w), off13)] or RomRead(T(0, blk(w), off13)) when its
window is visible and changes nothing else but, for ROM, the external device's own state; when
hidden it changes nothing.
Formalises R104. -/
def Obligations.ReadRamRomWindows : Prop :=
  ∀ (s : State) (a : Access), s.mode = .ramRom →
    (a.sel.blk1 = true → s.sel .w1 = false →
      if s.vis (.win .w1) = true then drivesRam (.rdRamRomW1S0 a) s (s.addr 1 0 a)
      else noEffect (.rdRamRomW1S0 a) s) ∧
    (a.sel.blk1 = true → s.sel .w1 = true →
      if s.vis (.win .w1) = true then drivesRom (.rdRamRomW1S1 a) s (s.addr 0 0 a)
      else noEffect (.rdRamRomW1S1 a) s) ∧
    (a.sel.blk2 = true → s.sel .w2 = false →
      if s.vis (.win .w2) = true then drivesRam (.rdRamRomW2S0 a) s (s.addr 1 1 a)
      else noEffect (.rdRamRomW2S0 a) s) ∧
    (a.sel.blk2 = true → s.sel .w2 = true →
      if s.vis (.win .w2) = true then drivesRom (.rdRamRomW2S1 a) s (s.addr 0 1 a)
      else noEffect (.rdRamRomW2S1 a) s) ∧
    (a.sel.blk3 = true → s.sel .w3 = false →
      if s.vis (.win .w3) = true then drivesRam (.rdRamRomW3S0 a) s (s.addr 1 2 a)
      else noEffect (.rdRamRomW3S0 a) s) ∧
    (a.sel.blk3 = true → s.sel .w3 = true →
      if s.vis (.win .w3) = true then drivesRom (.rdRamRomW3S1 a) s (s.addr 0 2 a)
      else noEffect (.rdRamRomW3S1 a) s) ∧
    (a.sel.blk5 = true → s.sel .w5 = false →
      if s.vis (.win .w5) = true then drivesRam (.rdRamRomW5S0 a) s (s.addr 1 3 a)
      else noEffect (.rdRamRomW5S0 a) s) ∧
    (a.sel.blk5 = true → s.sel .w5 = true →
      if s.vis (.win .w5) = true then drivesRom (.rdRamRomW5S1 a) s (s.addr 0 3 a)
      else noEffect (.rdRamRomW5S1 a) s)

/-- O23. RD.UNUSED.ANY, WR.UNUSED.ANY, RD.ANY.IO2 and WR.ANY.IO2 complete in every state, for every
input, and change nothing. -/
def Obligations.IgnoredRowsHaveNoEffect : Prop :=
  ∀ (s : State) (a : Access),
    noEffect (.rdUnusedAny a) s ∧ noEffect (.wrUnusedAny a) s ∧ noEffect (.rdAnyIo2 a) s ∧
    noEffect (.wrAnyIo2 a) s

/-- O24. WR.START.W0.RAM1, .RAM2, .RAM3, WR.START.W1, .W2, .W3 complete in every state and change
nothing: nothing is written and the latch is unchanged.
Formalises R121. -/
def Obligations.WriteStartNoAccess : Prop :=
  ∀ (s : State) (a : Access),
    noEffect (.wrStartW0Ram1 a) s ∧
    noEffect (.wrStartW0Ram2 a) s ∧
    noEffect (.wrStartW0Ram3 a) s ∧
    noEffect (.wrStartW1 a) s ∧
    noEffect (.wrStartW2 a) s ∧
    noEffect (.wrStartW3 a) s

/-- O25. In mode START with blk5 asserted and RAM in canonical form: when window 5 answers (its hide
bit clear, or START_W5_VIS_GATED false), WR.START.W5 stores the data byte at RAM[T(1, 3, off13)],
leaves every other byte of RAM and the external device as they were, clears the latch whatever it
was, and changes nothing else; when it is hidden, it changes nothing. That the hide bit gates
window 5 in START is decision D9 of the spec (log entry 2). -/
def Obligations.WriteStartWindow5 : Prop :=
  ∀ (s : State) (a : Access), memWf s.ram = true → s.mode = .start → a.sel.blk5 = true →
    if s.vis (.win .w5) = true ∨ s.cfg.startW5VisGated = false then
      ∃ t, exec (.wrStartW5 a) s = .next t ∧ t.latch = false ∧
        ramStored { s with latch := false } t (s.addr 1 3 a) a.data
    else noEffect (.wrStartW5 a) s

/-- O26. For each of the seven modes: WR.<mode>.REG1 with offset bit 0 clear sets M, and
WR.<mode>.REG2 with offset bit 0 set sets V, to the data byte, when the access is granted (the
gate of R82 in the current state, by readings D8 and D13 of the spec, log entry 9), and the latch,
both stores and everything else stay as they were; when it is not granted nothing changes. -/
def Obligations.WriteRegisters : Prop :=
  ∀ (s : State) (a : Access),
    (s.mode = .start → regNo a = false →
      if s.granted a = true then exec (.wrStartReg1 a) s = .next { s with m := a.data } else noEffect (.wrStartReg1 a) s) ∧
    (s.mode = .start → regNo a = true →
      if s.granted a = true then exec (.wrStartReg2 a) s = .next { s with v := a.data } else noEffect (.wrStartReg2 a) s) ∧
    (s.mode = .flash → regNo a = false →
      if s.granted a = true then exec (.wrFlashReg1 a) s = .next { s with m := a.data } else noEffect (.wrFlashReg1 a) s) ∧
    (s.mode = .flash → regNo a = true →
      if s.granted a = true then exec (.wrFlashReg2 a) s = .next { s with v := a.data } else noEffect (.wrFlashReg2 a) s) ∧
    (s.mode = .superRom → regNo a = false →
      if s.granted a = true then exec (.wrSuperRomReg1 a) s = .next { s with m := a.data } else noEffect (.wrSuperRomReg1 a) s) ∧
    (s.mode = .superRom → regNo a = true →
      if s.granted a = true then exec (.wrSuperRomReg2 a) s = .next { s with v := a.data } else noEffect (.wrSuperRomReg2 a) s) ∧
    (s.mode = .ramRom → regNo a = false →
      if s.granted a = true then exec (.wrRamRomReg1 a) s = .next { s with m := a.data } else noEffect (.wrRamRomReg1 a) s) ∧
    (s.mode = .ramRom → regNo a = true →
      if s.granted a = true then exec (.wrRamRomReg2 a) s = .next { s with v := a.data } else noEffect (.wrRamRomReg2 a) s) ∧
    (s.mode = .ram1 → regNo a = false →
      if s.granted a = true then exec (.wrRam1Reg1 a) s = .next { s with m := a.data } else noEffect (.wrRam1Reg1 a) s) ∧
    (s.mode = .ram1 → regNo a = true →
      if s.granted a = true then exec (.wrRam1Reg2 a) s = .next { s with v := a.data } else noEffect (.wrRam1Reg2 a) s) ∧
    (s.mode = .superRam → regNo a = false →
      if s.granted a = true then exec (.wrSuperRamReg1 a) s = .next { s with m := a.data } else noEffect (.wrSuperRamReg1 a) s) ∧
    (s.mode = .superRam → regNo a = true →
      if s.granted a = true then exec (.wrSuperRamReg2 a) s = .next { s with v := a.data } else noEffect (.wrSuperRamReg2 a) s) ∧
    (s.mode = .ram2 → regNo a = false →
      if s.granted a = true then exec (.wrRam2Reg1 a) s = .next { s with m := a.data } else noEffect (.wrRam2Reg1 a) s) ∧
    (s.mode = .ram2 → regNo a = true →
      if s.granted a = true then exec (.wrRam2Reg2 a) s = .next { s with v := a.data } else noEffect (.wrRam2Reg2 a) s)

/-- O27. For each mode SUPER_ROM, RAM_1, RAM_2, SUPER_RAM, RAM_ROM and FLASH and each of ram1, ram2,
ram3, with RAM in canonical form: WR.<mode>.W0.RAM<k> with its signal asserted stores the data
byte at RAM[T(0, 0, off13)] when window 0 is visible, leaves every other byte of RAM as it was and
changes nothing else; when it is hidden it changes nothing. The condition is that of the read path
by decision D15 of the spec (log entry 9). -/
def Obligations.WriteFixedLowWindow : Prop :=
  ∀ (s : State) (a : Access), memWf s.ram = true →
    (s.mode = .flash → a.sel.ram1 = true →
      if s.vis .w0 = true then storesRam (.wrFlashW0Ram1 a) s (s.addr 0 0 a) a.data else noEffect (.wrFlashW0Ram1 a) s) ∧
    (s.mode = .flash → a.sel.ram2 = true →
      if s.vis .w0 = true then storesRam (.wrFlashW0Ram2 a) s (s.addr 0 0 a) a.data else noEffect (.wrFlashW0Ram2 a) s) ∧
    (s.mode = .flash → a.sel.ram3 = true →
      if s.vis .w0 = true then storesRam (.wrFlashW0Ram3 a) s (s.addr 0 0 a) a.data else noEffect (.wrFlashW0Ram3 a) s) ∧
    (s.mode = .superRom → a.sel.ram1 = true →
      if s.vis .w0 = true then storesRam (.wrSuperRomW0Ram1 a) s (s.addr 0 0 a) a.data else noEffect (.wrSuperRomW0Ram1 a) s) ∧
    (s.mode = .superRom → a.sel.ram2 = true →
      if s.vis .w0 = true then storesRam (.wrSuperRomW0Ram2 a) s (s.addr 0 0 a) a.data else noEffect (.wrSuperRomW0Ram2 a) s) ∧
    (s.mode = .superRom → a.sel.ram3 = true →
      if s.vis .w0 = true then storesRam (.wrSuperRomW0Ram3 a) s (s.addr 0 0 a) a.data else noEffect (.wrSuperRomW0Ram3 a) s) ∧
    (s.mode = .ramRom → a.sel.ram1 = true →
      if s.vis .w0 = true then storesRam (.wrRamRomW0Ram1 a) s (s.addr 0 0 a) a.data else noEffect (.wrRamRomW0Ram1 a) s) ∧
    (s.mode = .ramRom → a.sel.ram2 = true →
      if s.vis .w0 = true then storesRam (.wrRamRomW0Ram2 a) s (s.addr 0 0 a) a.data else noEffect (.wrRamRomW0Ram2 a) s) ∧
    (s.mode = .ramRom → a.sel.ram3 = true →
      if s.vis .w0 = true then storesRam (.wrRamRomW0Ram3 a) s (s.addr 0 0 a) a.data else noEffect (.wrRamRomW0Ram3 a) s) ∧
    (s.mode = .ram1 → a.sel.ram1 = true →
      if s.vis .w0 = true then storesRam (.wrRam1W0Ram1 a) s (s.addr 0 0 a) a.data else noEffect (.wrRam1W0Ram1 a) s) ∧
    (s.mode = .ram1 → a.sel.ram2 = true →
      if s.vis .w0 = true then storesRam (.wrRam1W0Ram2 a) s (s.addr 0 0 a) a.data else noEffect (.wrRam1W0Ram2 a) s) ∧
    (s.mode = .ram1 → a.sel.ram3 = true →
      if s.vis .w0 = true then storesRam (.wrRam1W0Ram3 a) s (s.addr 0 0 a) a.data else noEffect (.wrRam1W0Ram3 a) s) ∧
    (s.mode = .superRam → a.sel.ram1 = true →
      if s.vis .w0 = true then storesRam (.wrSuperRamW0Ram1 a) s (s.addr 0 0 a) a.data else noEffect (.wrSuperRamW0Ram1 a) s) ∧
    (s.mode = .superRam → a.sel.ram2 = true →
      if s.vis .w0 = true then storesRam (.wrSuperRamW0Ram2 a) s (s.addr 0 0 a) a.data else noEffect (.wrSuperRamW0Ram2 a) s) ∧
    (s.mode = .superRam → a.sel.ram3 = true →
      if s.vis .w0 = true then storesRam (.wrSuperRamW0Ram3 a) s (s.addr 0 0 a) a.data else noEffect (.wrSuperRamW0Ram3 a) s) ∧
    (s.mode = .ram2 → a.sel.ram1 = true →
      if s.vis .w0 = true then storesRam (.wrRam2W0Ram1 a) s (s.addr 0 0 a) a.data else noEffect (.wrRam2W0Ram1 a) s) ∧
    (s.mode = .ram2 → a.sel.ram2 = true →
      if s.vis .w0 = true then storesRam (.wrRam2W0Ram2 a) s (s.addr 0 0 a) a.data else noEffect (.wrRam2W0Ram2 a) s) ∧
    (s.mode = .ram2 → a.sel.ram3 = true →
      if s.vis .w0 = true then storesRam (.wrRam2W0Ram3 a) s (s.addr 0 0 a) a.data else noEffect (.wrRam2W0Ram3 a) s)

/-- O28. In mode SUPER_ROM, RAM in canonical form, each of WR.SUPER_ROM.W1, .W2, .W3, .W5 with its
signal asserted and its window visible: with ROM_MODE_WRITE_TARGET = ROM (the default) it calls
RomWrite(T(BANK, blk(w), off13), value) and changes nothing else, RAM included; with
ROM_MODE_WRITE_TARGET = RAM it stores the byte at RAM[T(BANK, blk(w), off13)], leaves every other
byte of RAM as it was and changes nothing else; when hidden it changes nothing. The target is
decision D14 of the spec (log entry 2). -/
def Obligations.WriteSuperRomWindows : Prop :=
  ∀ (s : State) (a : Access), memWf s.ram = true → s.mode = .superRom →
    (a.sel.blk1 = true →
      if s.vis (.win .w1) = true then
        if s.cfg.romModeWriteTarget = .rom then storesRom (.wrSuperRomW1 a) s (s.addr s.bank 0 a) a.data
        else storesRam (.wrSuperRomW1 a) s (s.addr s.bank 0 a) a.data
      else noEffect (.wrSuperRomW1 a) s) ∧
    (a.sel.blk2 = true →
      if s.vis (.win .w2) = true then
        if s.cfg.romModeWriteTarget = .rom then storesRom (.wrSuperRomW2 a) s (s.addr s.bank 1 a) a.data
        else storesRam (.wrSuperRomW2 a) s (s.addr s.bank 1 a) a.data
      else noEffect (.wrSuperRomW2 a) s) ∧
    (a.sel.blk3 = true →
      if s.vis (.win .w3) = true then
        if s.cfg.romModeWriteTarget = .rom then storesRom (.wrSuperRomW3 a) s (s.addr s.bank 2 a) a.data
        else storesRam (.wrSuperRomW3 a) s (s.addr s.bank 2 a) a.data
      else noEffect (.wrSuperRomW3 a) s) ∧
    (a.sel.blk5 = true →
      if s.vis (.win .w5) = true then
        if s.cfg.romModeWriteTarget = .rom then storesRom (.wrSuperRomW5 a) s (s.addr s.bank 3 a) a.data
        else storesRam (.wrSuperRomW5 a) s (s.addr s.bank 3 a) a.data
      else noEffect (.wrSuperRomW5 a) s)

/-- O29. In mode RAM_1, RAM in canonical form, each of WR.RAM_1.W1, .W2, .W3, .W5 with its signal
asserted stores the data byte at RAM[T(1, blk(w), off13)] when its window is visible, leaves every
other byte of RAM as it was and changes nothing else, whatever M[4:0] holds; when hidden it
changes nothing.
Formalises R128. -/
def Obligations.WriteRam1Windows : Prop :=
  ∀ (s : State) (a : Access), memWf s.ram = true → s.mode = .ram1 →
    (a.sel.blk1 = true →
      if s.vis (.win .w1) = true then storesRam (.wrRam1W1 a) s (s.addr 1 0 a) a.data
      else noEffect (.wrRam1W1 a) s) ∧
    (a.sel.blk2 = true →
      if s.vis (.win .w2) = true then storesRam (.wrRam1W2 a) s (s.addr 1 1 a) a.data
      else noEffect (.wrRam1W2 a) s) ∧
    (a.sel.blk3 = true →
      if s.vis (.win .w3) = true then storesRam (.wrRam1W3 a) s (s.addr 1 2 a) a.data
      else noEffect (.wrRam1W3 a) s) ∧
    (a.sel.blk5 = true →
      if s.vis (.win .w5) = true then storesRam (.wrRam1W5 a) s (s.addr 1 3 a) a.data
      else noEffect (.wrRam1W5 a) s)

/-- O30. In mode RAM_2, RAM in canonical form, each of WR.RAM_2.W<w>.S0 and .S1 with its signal
asserted and the window's select bit at its value stores the data byte at RAM[T(1, blk(w), off13)]
or RAM[T(2, blk(w), off13)] when its window is visible, leaves every other byte of RAM as it was
and changes nothing else; when hidden it changes nothing.
Formalises R130. -/
def Obligations.WriteRam2Windows : Prop :=
  ∀ (s : State) (a : Access), memWf s.ram = true → s.mode = .ram2 →
    (a.sel.blk1 = true → s.sel .w1 = false →
      if s.vis (.win .w1) = true then storesRam (.wrRam2W1S0 a) s (s.addr 1 0 a) a.data
      else noEffect (.wrRam2W1S0 a) s) ∧
    (a.sel.blk1 = true → s.sel .w1 = true →
      if s.vis (.win .w1) = true then storesRam (.wrRam2W1S1 a) s (s.addr 2 0 a) a.data
      else noEffect (.wrRam2W1S1 a) s) ∧
    (a.sel.blk2 = true → s.sel .w2 = false →
      if s.vis (.win .w2) = true then storesRam (.wrRam2W2S0 a) s (s.addr 1 1 a) a.data
      else noEffect (.wrRam2W2S0 a) s) ∧
    (a.sel.blk2 = true → s.sel .w2 = true →
      if s.vis (.win .w2) = true then storesRam (.wrRam2W2S1 a) s (s.addr 2 1 a) a.data
      else noEffect (.wrRam2W2S1 a) s) ∧
    (a.sel.blk3 = true → s.sel .w3 = false →
      if s.vis (.win .w3) = true then storesRam (.wrRam2W3S0 a) s (s.addr 1 2 a) a.data
      else noEffect (.wrRam2W3S0 a) s) ∧
    (a.sel.blk3 = true → s.sel .w3 = true →
      if s.vis (.win .w3) = true then storesRam (.wrRam2W3S1 a) s (s.addr 2 2 a) a.data
      else noEffect (.wrRam2W3S1 a) s) ∧
    (a.sel.blk5 = true → s.sel .w5 = false →
      if s.vis (.win .w5) = true then storesRam (.wrRam2W5S0 a) s (s.addr 1 3 a) a.data
      else noEffect (.wrRam2W5S0 a) s) ∧
    (a.sel.blk5 = true → s.sel .w5 = true →
      if s.vis (.win .w5) = true then storesRam (.wrRam2W5S1 a) s (s.addr 2 3 a) a.data
      else noEffect (.wrRam2W5S1 a) s)

/-- O31. In mode SUPER_RAM, RAM in canonical form, each of WR.SUPER_RAM.W1, .W2, .W3, .W5 with its
signal asserted stores the data byte at RAM[T(BANK, blk(w), off13)] when its window is visible,
leaves every other byte of RAM as it was and changes nothing else; when hidden it changes nothing. -/
def Obligations.WriteSuperRamWindows : Prop :=
  ∀ (s : State) (a : Access), memWf s.ram = true → s.mode = .superRam →
    (a.sel.blk1 = true →
      if s.vis (.win .w1) = true then storesRam (.wrSuperRamW1 a) s (s.addr s.bank 0 a) a.data
      else noEffect (.wrSuperRamW1 a) s) ∧
    (a.sel.blk2 = true →
      if s.vis (.win .w2) = true then storesRam (.wrSuperRamW2 a) s (s.addr s.bank 1 a) a.data
      else noEffect (.wrSuperRamW2 a) s) ∧
    (a.sel.blk3 = true →
      if s.vis (.win .w3) = true then storesRam (.wrSuperRamW3 a) s (s.addr s.bank 2 a) a.data
      else noEffect (.wrSuperRamW3 a) s) ∧
    (a.sel.blk5 = true →
      if s.vis (.win .w5) = true then storesRam (.wrSuperRamW5 a) s (s.addr s.bank 3 a) a.data
      else noEffect (.wrSuperRamW5 a) s)

/-- O32. In mode RAM_ROM, RAM in canonical form, with its signal asserted and its window visible:
WR.RAM_ROM.W<w>.S0 (select bit clear) stores the data byte at RAM[T(1, blk(w), off13)];
WR.RAM_ROM.W<w>.S1 (select bit set) calls RomWrite(T(0, blk(w), off13), value) and leaves RAM
alone, or, under ROM_MODE_WRITE_TARGET = RAM, stores at RAM[T(1, blk(w), off13)]; nothing else
changes; when hidden nothing changes. The target is decision D14 of the spec (log entry 2). -/
def Obligations.WriteRamRomWindows : Prop :=
  ∀ (s : State) (a : Access), memWf s.ram = true → s.mode = .ramRom →
    (a.sel.blk1 = true → s.sel .w1 = false →
      if s.vis (.win .w1) = true then storesRam (.wrRamRomW1S0 a) s (s.addr 1 0 a) a.data
      else noEffect (.wrRamRomW1S0 a) s) ∧
    (a.sel.blk1 = true → s.sel .w1 = true →
      if s.vis (.win .w1) = true then
        if s.cfg.romModeWriteTarget = .rom then storesRom (.wrRamRomW1S1 a) s (s.addr 0 0 a) a.data
        else storesRam (.wrRamRomW1S1 a) s (s.addr 1 0 a) a.data
      else noEffect (.wrRamRomW1S1 a) s) ∧
    (a.sel.blk2 = true → s.sel .w2 = false →
      if s.vis (.win .w2) = true then storesRam (.wrRamRomW2S0 a) s (s.addr 1 1 a) a.data
      else noEffect (.wrRamRomW2S0 a) s) ∧
    (a.sel.blk2 = true → s.sel .w2 = true →
      if s.vis (.win .w2) = true then
        if s.cfg.romModeWriteTarget = .rom then storesRom (.wrRamRomW2S1 a) s (s.addr 0 1 a) a.data
        else storesRam (.wrRamRomW2S1 a) s (s.addr 1 1 a) a.data
      else noEffect (.wrRamRomW2S1 a) s) ∧
    (a.sel.blk3 = true → s.sel .w3 = false →
      if s.vis (.win .w3) = true then storesRam (.wrRamRomW3S0 a) s (s.addr 1 2 a) a.data
      else noEffect (.wrRamRomW3S0 a) s) ∧
    (a.sel.blk3 = true → s.sel .w3 = true →
      if s.vis (.win .w3) = true then
        if s.cfg.romModeWriteTarget = .rom then storesRom (.wrRamRomW3S1 a) s (s.addr 0 2 a) a.data
        else storesRam (.wrRamRomW3S1 a) s (s.addr 1 2 a) a.data
      else noEffect (.wrRamRomW3S1 a) s) ∧
    (a.sel.blk5 = true → s.sel .w5 = false →
      if s.vis (.win .w5) = true then storesRam (.wrRamRomW5S0 a) s (s.addr 1 3 a) a.data
      else noEffect (.wrRamRomW5S0 a) s) ∧
    (a.sel.blk5 = true → s.sel .w5 = true →
      if s.vis (.win .w5) = true then
        if s.cfg.romModeWriteTarget = .rom then storesRom (.wrRamRomW5S1 a) s (s.addr 0 3 a) a.data
        else storesRam (.wrRamRomW5S1 a) s (s.addr 1 3 a) a.data
      else noEffect (.wrRamRomW5S1 a) s)

/-- O33. In mode FLASH each of WR.FLASH.W1, .W2, .W3, .W5 with its signal asserted calls
RomWrite(T(BANK, blk(w), off13), value) when its window is visible and changes nothing else, RAM
included; when hidden it changes nothing.
Formalises R136. -/
def Obligations.WriteFlashWindows : Prop :=
  ∀ (s : State) (a : Access), s.mode = .flash →
    (a.sel.blk1 = true →
      if s.vis (.win .w1) = true then storesRom (.wrFlashW1 a) s (s.addr s.bank 0 a) a.data
      else noEffect (.wrFlashW1 a) s) ∧
    (a.sel.blk2 = true →
      if s.vis (.win .w2) = true then storesRom (.wrFlashW2 a) s (s.addr s.bank 1 a) a.data
      else noEffect (.wrFlashW2 a) s) ∧
    (a.sel.blk3 = true →
      if s.vis (.win .w3) = true then storesRom (.wrFlashW3 a) s (s.addr s.bank 2 a) a.data
      else noEffect (.wrFlashW3 a) s) ∧
    (a.sel.blk5 = true →
      if s.vis (.win .w5) = true then storesRom (.wrFlashW5 a) s (s.addr s.bank 3 a) a.data
      else noEffect (.wrFlashW5 a) s)

/-- O34. In every state RESET completes with M = 0x00, V = 0x00 and the latch set, RAM, the external
device and everything else unchanged; it does not read the registers it sets, so states that
differ only in M, V and the latch come out equal, and a second RESET changes nothing more.
Formalises R165. -/
def Obligations.ResetSetsRegisters : Prop :=
  ∀ s : State,
    exec .reset s = .next { s with m := 0x00, v := 0x00, latch := true } ∧
    (∀ (m v : Byte) (l : Bool), exec .reset { s with m := m, v := v, latch := l } = exec .reset s) ∧
    ∀ t, exec .reset s = .next t → exec .reset t = .next t

/-- O35. State.reset has M = 0x00 (mode START), V = 0x00 (every window and the register window
visible), the latch set, and every byte of RAM 0x00. The values of the model's own fields (an
external device with no call made to it, the default parameters, no pending transaction, no
result) are log entries 1 to 4. -/
def Obligations.ResetStateValues : Prop :=
  State.reset.m = 0x00 ∧ State.reset.v = 0x00 ∧ State.reset.latch = true ∧
  State.reset.mode = .start ∧ (∀ r, State.reset.vis r = true) ∧
  (∀ a, memRead State.reset.ram a = 0x00) ∧ State.reset.rom = .external [] ∧
  State.reset.cfg = defaultConfig ∧ State.reset.pending = [] ∧ State.reset.out = none

/-- O36. For every contents of M, V and the latch at construction (which the spec leaves unspecified;
log entry 5), every external device and all parameters: RAM reads 0x00 everywhere, and RESET
completes in the state with M = 0x00, V = 0x00 and the latch set; for the device and parameters of
State.reset that state is State.reset. -/
def Obligations.ConstructionThenReset : Prop :=
  ∀ (m v : Byte) (l : Bool) (rom : Rom) (c : Config),
    (∀ a, memRead (State.constructed m v l rom c).ram a = 0x00) ∧
    exec .reset (State.constructed m v l rom c) =
      .next { State.reset with rom := rom, cfg := c }

/-- O37. Under the default parameters, for every instruction and every state: if the decode key made
of the instruction's own transaction word and the current M, V and latch does not fit the row's
match and mask in the opcode table, the instruction completes and changes nothing. So the meanings
check every mode, hide, select and latch bit that the table's mask names. That an instruction
executed where its row does not fire completes and changes nothing is the model's own choice
(DESIGN CHOICE, log entry 11): R57 gives a row an effect only where it fires, and R110 and R140
speak of a whole access that no statement answers. Rests on the default parameters (decisions D1,
D2, D4, D5, D6, D7 of the spec, and D9 for window 5 of START; log entry 2). -/
def Obligations.RowsActOnlyWhenMatched : Prop :=
  ∀ (s : State) (i : Instr), s.cfg = defaultConfig →
    s.key (transactionWord (instrTransaction i)) &&& i.row.mask ≠ i.row.pattern → noEffect i s

/-- O38. From every state, reachable or not, whatever transaction is pending, the step answers a next
state: no fault and no refusal. And when the access at the head of the queue meets no condition of
the READ or WRITE procedure, no data is transferred: a READ ends with d_in undriven, and a WRITE
leaves both stores as they were.
Formalises R5. -/
def Obligations.NoStepFails : Prop :=
  (∀ s : State, ∃ t, step s = .next t) ∧
  ∀ (s t : State) (w : TW) (rest : List TW) (a : Access), s.pending = w :: rest →
    quiet s a = true → step s = .next t →
    (twTransaction w = .read a → t.out = some { d := a.data, drv := false }) ∧
    (twTransaction w = .write a → t.ram = s.ram ∧ t.rom = s.rom)

/-- O39. For every state with a transaction word at the head of the queue that is a RESET or asserts
at most one of the nine select signals: if the first row that fires for its decode key in that
state is the instruction i, the step is exec of i in the state with the word taken off the queue
and the result field begun (a READ begins with d = d_in and drv = false, a WRITE or RESET with
nothing); if no row fires, the step ends in that state. The queue and the result field are the
model's (log entries 3 and 4). -/
def Obligations.StepRunsDecodedInstruction : Prop :=
  ∀ (s : State) (t : TW) (rest : List TW), s.pending = t :: rest →
    (t.getLsbD 34 = true ∨ signalsAsserted (twAccess t).sel ≤ 1) →
    (∀ i is, decodeRows s.cfg (keyView (s.key t)) = i :: is →
      step s = exec i (s.begin t rest)) ∧
    (decodeRows s.cfg (keyView (s.key t)) = [] → step s = .next (s.begin t rest))

/-- O40. For every state with canonical stores and every pending transaction word, whatever set of
select signals it asserts and whatever the parameters: trying the rows of the opcode table in
order, with the decode key rebuilt from the current state before each, ends in the same state as
the READ procedure of R90, the WRITE procedure of R120 or RESET of R165 with route_r and route_w,
each statement against the state left by the one before. That every statement whose condition is
met acts, each in its turn, is R153 with decision D12 of the spec (log entry 10). -/
def Obligations.StepFollowsProcedures : Prop :=
  ∀ (s : State) (t : TW) (rest : List TW), storesWf s = true → s.pending = t :: rest →
    step s = .next ((s.begin t rest).procedure (twTransaction t))

/-- O41. For every state that meets the invariant (MODE_ENC is injective with START at 0; RAM and any
ROM image are in canonical form with every address inside the 512 KiB store; mode other than START
implies the latch is clear), whatever is pending: if the step answers a next state, that state
meets the invariant. The canonical form is the model's (log entry 8). That the latch is clear
outside START is the inference R24 marks as its own, from the gate of R82 (D8; log entry 9). -/
def Obligations.StepKeepsInvariant : Prop :=
  ∀ s t : State, inv s = true → step s = .next t → inv t = true

/-- O42. State.reset meets the invariant that every step keeps. The canonical form of the stores in it
is the model's (log entry 8). -/
def Obligations.ResetMeetsInvariant : Prop :=
  inv State.reset = true

/-- O43. From every state right after RESET (M = 0x00, V = 0x00, latch set), with any RAM, external
device, injective MODE_ENC with START at 0 and any list of READ, WRITE and RESET words pending:
after any number of steps, if the mode is not START the latch is clear. R24 marks this as its own
inference, from the gate of R82 (D8; log entry 9). -/
def Obligations.LatchClearOutsideStartOnRuns : Prop :=
  ∀ (s : State) (n : Nat) (t : State), configWf s.cfg = true →
    s.m = 0x00 → s.v = 0x00 → s.latch = true → run n s = .next t →
    t.mode ≠ .start → t.latch = false

/-- O44. From every state in mode UNUSED, for any list of pending words none of which is a RESET:
after any number of steps M, V, the latch, RAM and the external device are what they were; and a
READ that is answered returns d_in undriven. That UNUSED grants nothing is decision D13 of the
spec (log entry 9); R167 is an inference the spec marks as derived. -/
def Obligations.UnusedEndsOnlyAtReset : Prop :=
  ∀ (s : State) (n : Nat) (t : State), s.mode = .unused → s.pending.all notReset = true →
    run n s = .next t →
    (t.m = s.m ∧ t.v = s.v ∧ t.latch = s.latch ∧ t.ram = s.ram ∧ t.rom = s.rom) ∧
    ∀ (w : TW) (rest : List TW) (a : Access), t.pending = w :: rest → twTransaction w = .read a →
      step t = .next { t with pending := rest, out := some { d := a.data, drv := false } }

/-- O45. From every state in a mode other than START whose register window is hidden (V[7] = 1 by
default), for any list of pending words none of which is a RESET: after any number of steps M and
V, and with them the mode, the windows and the latch, are what they were. R156 and R172 are
inferences that the spec marks as derived from the gate of R82; the statement rests on that gate's
reading, decision D8 of the spec (log entry 9), which refuses the case, disputed in conflict C4,
of a clear latch with V[7] = 1 outside START, and, for UNUSED, on decision D13 (log entry 9). -/
def Obligations.HiddenRegistersStayHidden : Prop :=
  ∀ (s : State) (n : Nat) (t : State), s.mode ≠ .start → s.vis .reg = false →
    s.pending.all notReset = true → run n s = .next t →
    t.m = s.m ∧ t.v = s.v ∧ t.latch = s.latch

/-- O46. From every state in mode START with the latch set and window 5 closed (V[4] = 1 under
START_W5_VIS_GATED), for any list of pending words none of which is a RESET: after any number of
steps M, V, the latch, RAM and the external device are what they were. That the hide bit gates
window 5 in START is decision D9 of the spec (log entry 2), and that a locked START grants no
register its reading D8 (log entry 9); R167 is an inference the spec marks as derived. -/
def Obligations.LockedHiddenStartIsStuck : Prop :=
  ∀ (s : State) (n : Nat) (t : State), s.mode = .start → s.latch = true →
    s.vis (.win .w5) = false → s.cfg.startW5VisGated = true → s.pending.all notReset = true →
    run n s = .next t →
    t.m = s.m ∧ t.v = s.v ∧ t.latch = s.latch ∧ t.ram = s.ram ∧ t.rom = s.rom

/-- O47. For every step that answers a transaction: after a RESET the latch is set; after a READ in
mode START that asserts blk5 while window 5 answers it is set; after such a WRITE it is clear;
after every other READ or WRITE, and in every other mode, it is what it was. -/
def Obligations.LatchChangesOnlyInStart : Prop :=
  ∀ (s t : State) (w : TW) (rest : List TW), s.pending = w :: rest → step s = .next t →
    match twTransaction w with
    | .reset   => t.latch = true
    | .read a  =>
      t.latch = if s.mode = .start ∧ a.sel.blk5 = true ∧ startW5Open s.cfg s.v = true then true
        else s.latch
    | .write a =>
      t.latch = if s.mode = .start ∧ a.sel.blk5 = true ∧ startW5Open s.cfg s.v = true then false
        else s.latch

/-- O48. For every step that answers a READ: M, V, every byte of RAM and the parameters are what they
were, and the result is a byte with drv true, or d_in with drv false; in the second case the
external device was not called either. -/
def Obligations.ReadChangesNoRegisterAndNoRam : Prop :=
  ∀ (s t : State) (w : TW) (rest : List TW) (a : Access), s.pending = w :: rest →
    twTransaction w = .read a → step s = .next t →
    t.m = s.m ∧ t.v = s.v ∧ t.ram = s.ram ∧ t.cfg = s.cfg ∧
    ((∃ b, t.out = some { d := b, drv := true }) ∨
      (t.out = some { d := a.data, drv := false } ∧ t.rom = s.rom))

/-- O49. For every step that answers a WRITE: it returns no data; outside mode START the latch is what
it was; M or V differ only if the register statement was granted (the register select with a
matching offset, and in START a latch that is clear or cleared by window 5 in the same access, in
another mode but UNUSED a visible register window); and a byte of RAM differs only at the address
that T gives for a selected window that answers: T(1, 3, off13) for window 5 in START, elsewhere
T(0, 0, off13) for window 0, or, for window 1, 2, 3 or 5 where route_w names RamStore, T(bank,
blk(w), off13) with the bank of route_w. The clauses formalise R141 with the gate unfolded by the
readings D8 and D13 of the spec (log entry 9), with the unlocking of the registers in the same
access by decision D12 (log entry 10; R123 marks it as derived), and with window 5 of START and
the write target as the parameters of D9 and D14 say (log entry 2). -/
def Obligations.WriteEffectsAreConfined : Prop :=
  ∀ (s t : State) (w : TW) (rest : List TW) (a : Access), s.pending = w :: rest →
    twTransaction w = .write a → step s = .next t →
    t.out = none ∧ (s.mode ≠ .start → t.latch = s.latch) ∧
    (t.m ≠ s.m ∨ t.v ≠ s.v → regSel s.cfg a = true ∧
      (if s.mode = .start then
        s.latch = false ∨ (a.sel.blk5 = true ∧ startW5Open s.cfg s.v = true)
       else s.mode ≠ .unused ∧ s.vis .reg = true)) ∧
    ∀ x, memRead t.ram x ≠ memRead s.ram x →
      (s.mode = .start ∧ a.sel.blk5 = true ∧ startW5Open s.cfg s.v = true ∧
        x = (s.addr 1 3 a).toNat) ∨
      (s.mode ≠ .start ∧ s.mode ≠ .unused ∧ selectsW0 a = true ∧ s.vis .w0 = true ∧
        x = (s.addr 0 0 a).toNat) ∨
      ∃ win bank, selectsWindow a win = true ∧ s.vis (.win win) = true ∧
        s.routeWrite win = some (.ram, bank) ∧ x = (s.addr bank (blockOf win) a).toNat

/-- O50. For every step that answers an access for which no statement of the READ or WRITE procedure
has its condition met: a READ returns (d_in, false), a WRITE returns nothing, and M, V, the latch,
RAM, the external device and the parameters are unchanged. And no statement has its condition met,
under the default parameters, when no signal is asserted or only io2, when only io3 (and perhaps
io2) is asserted and the offset does not match, when the mode is UNUSED, or when the mode is START
and neither blk5 nor io3 is asserted. The defaults are decisions D1 to D7 and D9 of the spec (log
entry 2), and that UNUSED grants nothing is D13 (log entry 9). -/
def Obligations.QuietAccessChangesNothing : Prop :=
  (∀ (s : State) (w : TW) (rest : List TW) (a : Access), s.pending = w :: rest →
    quiet s a = true →
    (twTransaction w = .read a →
      step s = .next { s with pending := rest, out := some { d := a.data, drv := false } }) ∧
    (twTransaction w = .write a → step s = .next { s with pending := rest, out := none })) ∧
  ∀ (s : State) (a : Access), s.cfg = defaultConfig →
    (selectedRegions a = 0 ∨
      (selectsOnly a .reg = true ∧ a.off &&& 0x1C02 ≠ 0x1C02) ∨ s.mode = .unused ∨
      (s.mode = .start ∧ a.sel.blk5 = false ∧ a.sel.io3 = false)) →
    quiet s a = true

/-- O51. Under the default parameters, for each of windows 0, 1, 2, 3, 5: if its bit of V is set and
an access selects that window and no other region, then in every mode a READ returns (d_in, false)
and a WRITE writes nothing, and no state changes. The positions and polarity of the bits, and that
START is gated too, are decisions D5, D6 and D9 of the spec, and that io3 is the register window's
signal is D7 (log entry 2); R111 marks the extension from window 1 to the other windows as
derived. -/
def Obligations.HiddenWindowsDoNothing : Prop :=
  ∀ (s : State) (w : TW) (rest : List TW) (a : Access) (r : Region),
    s.cfg = defaultConfig → s.pending = w :: rest → selectsOnly a r = true →
    (match r with
      | .w0       => s.v.getLsbD 0 = true
      | .win .w1  => s.v.getLsbD 1 = true
      | .win .w2  => s.v.getLsbD 2 = true
      | .win .w3  => s.v.getLsbD 3 = true
      | .win .w5  => s.v.getLsbD 4 = true
      | .reg      => False) →
    (twTransaction w = .read a →
      step s = .next { s with pending := rest, out := some { d := a.data, drv := false } }) ∧
    (twTransaction w = .write a → step s = .next { s with pending := rest, out := none })

/-- O52. Under REG_SIGNAL = io3 (the default, decision D7 of the spec; PRESUMED, log entry 2), in mode
SUPER_RAM, canonical stores (log entry 8), for each window w in 1, 2, 3, 5 that is visible: a
WRITE that selects only that window followed by a READ of the same window at the same offset, with
the same registers, ends with the byte written on the bus, driven, and the registers, the latch
and the external device unchanged. -/
def Obligations.SuperRamRoundTrip : Prop :=
  ∀ (s : State) (w : Window) (t t' : TW) (rest : List TW) (a a' : Access),
    storesWf s = true → s.mode = .superRam → s.vis (.win w) = true →
    s.pending = t :: t' :: rest → twTransaction t = .write a → twTransaction t' = .read a' →
    selectsOnly a (.win w) = true → selectsOnly a' (.win w) = true → off13 a = off13 a' →
    s.cfg.regSignal = .io3 →
    ∃ u, run 2 s = .next u ∧ u.out = some { d := a.data, drv := true } ∧ u.m = s.m ∧ u.v = s.v ∧
      u.latch = s.latch ∧ u.rom = s.rom

/-- O53. In mode START: a READ that asserts blk5 while window 5 answers leaves the latch set and a
WRITE that does so clears it; and, under REG_SIGNAL = io3 (the default, decision D7 of the spec;
PRESUMED, log entry 2), while the latch is clear, an access that selects the register window by
io3 and no other region, at an offset that matches, returns M or V (driven) on a READ and sets M
or V to the data byte on a WRITE, the register being picked by offset bit 0, the latch staying
clear. The gate is reading D8 of the spec (log entry 9), and the hide bit of window 5 the
parameter of D9 (log entry 2). -/
def Obligations.UnlockOpensTheRegisters : Prop :=
  ∀ (s : State) (w : TW) (rest : List TW) (a : Access), s.pending = w :: rest →
    s.mode = .start →
    (a.sel.blk5 = true → startW5Open s.cfg s.v = true →
      (twTransaction w = .read a → ∃ t, step s = .next t ∧ t.latch = true) ∧
      (twTransaction w = .write a → ∃ t, step s = .next t ∧ t.latch = false)) ∧
    (s.latch = false → selectsOnly a .reg = true → regMatch a = true →
      s.cfg.regSignal = .io3 →
      (twTransaction w = .read a → step s = .next
        { s with
          pending := rest
          out := some { d := if regNo a = true then s.v else s.m, drv := true } }) ∧
      (twTransaction w = .write a → step s = .next
        { s with
          pending := rest
          out := none
          m := if regNo a = true then s.m else a.data
          v := if regNo a = true then a.data else s.v }))

/-- O54. Two states with the same parameters and the same external device, both in mode START and
locked, whose V agree on SWAP and on window 5's visibility, but with any other bits of M and V and
any RAM: the same READ word is answered with the same result, and leaves both locked with equal
external devices. The two answers of the device are equal by the model's choice of a device that
is a function of the calls made to it (DESIGN CHOICE, log entry 1, unsafe for this statement: a
device whose answers depend on time could differ); that a locked START grants no register is the
gate of R82 as the spec reads it (D8, log entry 9). -/
def Obligations.LockedStartRevealsOnlyRom : Prop :=
  ∀ (s s' t t' : State) (w : TW) (rest rest' : List TW) (a : Access),
    s.cfg = s'.cfg → s.rom = s'.rom → s.mode = .start → s'.mode = .start →
    s.latch = true → s'.latch = true → swapField s.v = swapField s'.v →
    s.vis (.win .w5) = s'.vis (.win .w5) → s.pending = w :: rest → s'.pending = w :: rest' →
    twTransaction w = .read a → step s = .next t → step s' = .next t' →
    t.out = t'.out ∧ t.rom = t'.rom ∧ t.latch = true ∧ t'.latch = true

/-- O55. For every WRITE that selects at most one region (as real hardware does), under REG_SIGNAL =
io3 (the default, decision D7 of the spec; log entry 2): if RAM differs afterwards then the
external device, M and V are unchanged; if the external device differs then RAM, M and V are
unchanged; if M or V differ then RAM and the external device are unchanged, and not both M and V
differ. -/
def Obligations.ExclusiveWriteTouchesOnePlace : Prop :=
  ∀ (s t : State) (w : TW) (rest : List TW) (a : Access), s.pending = w :: rest →
    twTransaction w = .write a → exclusive a = true → s.cfg.regSignal = .io3 →
    step s = .next t →
    (t.ram ≠ s.ram → t.rom = s.rom ∧ t.m = s.m ∧ t.v = s.v) ∧
    (t.rom ≠ s.rom → t.ram = s.ram ∧ t.m = s.m ∧ t.v = s.v) ∧
    (t.m ≠ s.m → t.ram = s.ram ∧ t.rom = s.rom ∧ t.v = s.v) ∧
    (t.v ≠ s.v → t.ram = s.ram ∧ t.rom = s.rom ∧ t.m = s.m)

/-- O56. In every mode other than START, for a READ whose register access is granted, whatever windows
it selects besides: the byte returned is M (offset bit 0 clear) or V (set), driven, since the
register statement is evaluated last. In START, with the latch clear and window 5 answering in the
same READ, window 5 locks first: the ROM byte is returned and the registers are refused. That
earlier statements still act is decision D12 of the spec (log entry 10), the gate its reading D8
(log entry 9). -/
def Obligations.RegisterWinsRead : Prop :=
  ∀ (s : State) (w : TW) (rest : List TW) (a : Access), s.pending = w :: rest →
    twTransaction w = .read a →
    (s.mode ≠ .start → s.granted a = true →
      ∃ t, step s = .next t ∧
        t.out = some { d := if regNo a = true then s.v else s.m, drv := true }) ∧
    (s.mode = .start → a.sel.blk5 = true → startW5Open s.cfg s.v = true →
      ∃ t, step s = .next t ∧
        t.out = some { d := (romRead s.rom (s.addr 0 3 a)).1, drv := true })

/-- O57. In mode START, locked or not, canonical RAM, a WRITE that asserts blk5 while window 5
answers, asserts the register select and matches: the byte is stored at RAM[T(1, 3, off13)], every
other byte of RAM is unchanged, the latch is clear, and M (offset bit 0 clear) or V (set) is the
data byte. Derived by the spec from its evaluation order (decision D12, log entry 10; R123 marks
it as derived) and from the gate (D8, log entry 9). -/
def Obligations.StartWriteUnlocksRegisterWrite : Prop :=
  ∀ (s : State) (w : TW) (rest : List TW) (a : Access), s.pending = w :: rest →
    twTransaction w = .write a → memWf s.ram = true → s.mode = .start → a.sel.blk5 = true →
    startW5Open s.cfg s.v = true → regSel s.cfg a = true →
    ∃ t, step s = .next t ∧ t.latch = false ∧ memRead t.ram (s.addr 1 3 a).toNat = a.data ∧
      (∀ x, x ≠ (s.addr 1 3 a).toNat → memRead t.ram x = memRead s.ram x) ∧ t.rom = s.rom ∧
      t.m = (if regNo a = true then s.m else a.data) ∧
      t.v = (if regNo a = true then a.data else s.v)

/-- O58. Two transactions of the same kind with the same select signals and data byte, whose offsets
agree on bits 12 to 0, have the same effect: from the same state, the steps that answer them end
in the same state. That the offset is masked so is decision D10 of the spec (log entry 9). -/
def Obligations.HighOffsetBitsIgnored : Prop :=
  ∀ (s : State) (w w' : TW) (rest : List TW) (a a' : Access),
    (twTransaction w = .read a ∧ twTransaction w' = .read a' ∨
      twTransaction w = .write a ∧ twTransaction w' = .write a') →
    a.sel = a'.sel → a.data = a'.data → a.off &&& 0x1FFF = a'.off &&& 0x1FFF →
    step { s with pending := w :: rest } = step { s with pending := w' :: rest }

/-- O59. Under REG_SIGNAL = io3 (the default, decision D7 of the spec; log entry 2), two transactions
of the same kind that differ at most in io2 have the same effect: from the same state, the steps
that answer them end in the same state. -/
def Obligations.IgnoredSignalHasNoEffect : Prop :=
  ∀ (s : State) (w w' : TW) (rest : List TW) (a : Access) (b : Bool),
    s.cfg.regSignal = .io3 →
    (twTransaction w = .read a ∧
        twTransaction w' = .read { a with sel := { a.sel with io2 := b } } ∨
      twTransaction w = .write a ∧
        twTransaction w' = .write { a with sel := { a.sel with io2 := b } }) →
    step { s with pending := w :: rest } = step { s with pending := w' :: rest }

/-- O60. With nothing pending the step changes nothing (the model's choice for a block that no driver
accesses; log entry 3); with a word at the head of the queue the step takes exactly that word off
and leaves the rest; and no step changes the parameters. -/
def Obligations.StepServesTheQueue : Prop :=
  ∀ s t : State, step s = .next t →
    t.cfg = s.cfg ∧ (s.pending = [] → t = s) ∧
    ∀ w rest, s.pending = w :: rest → t.pending = rest
end

