-- ==== Sys2Proof/Laws/Decode.lean ====
section
/-! SUPPORT. The laws of the transaction word and the decode key: reading back what was written. -/

namespace Sys2Proof

open Machine

theorem getLsbD_twBit (b : Bool) (n i : Nat) :
    (twBit b n).getLsbD i = (decide (i < 35) && decide (n = i) && b) := by
  rcases Nat.lt_trichotomy i n with h | h | h
  · have h0 : ¬ n = i := by omega
    simp [twBit, BitVec.getLsbD_shiftLeft, h, h0]
  · subst h; simp [twBit, BitVec.getLsbD_shiftLeft]
  · have h1 : ¬ i < n := by omega
    have h2 : i - n ≠ 0 := by omega
    have h3 : ¬ n = i := by omega
    simp [twBit, BitVec.getLsbD_shiftLeft, h1, h2, h3]

/-- Each select bit stands at its own place of the word. -/
theorem getLsbD_selectsWord (sel : Selects) (i : Nat) (hi : i < 35) :
    (selectsWord sel).getLsbD i =
      (decide (24 = i) && sel.ram1 || decide (25 = i) && sel.ram2 || decide (26 = i) && sel.ram3
        || decide (27 = i) && sel.blk1 || decide (28 = i) && sel.blk2 || decide (29 = i) && sel.blk3
        || decide (30 = i) && sel.blk5 || decide (31 = i) && sel.io2
        || decide (32 = i) && sel.io3) := by
  simp only [selectsWord, BitVec.getLsbD_or, getLsbD_twBit, hi, decide_true, Bool.true_and]

theorem getLsbD_accessWord (a : Access) (i : Nat) (hi : i < 35) :
    (accessWord a).getLsbD i =
      (a.data.getLsbD i || (!decide (i < 8) && a.off.getLsbD (i - 8)) ||
        (selectsWord a.sel).getLsbD i) := by
  simp [accessWord, hi]

theorem getLsbD_selectsWord_low (sel : Selects) (i : Nat) (hi : i < 24) :
    (selectsWord sel).getLsbD i = false := by
  rw [getLsbD_selectsWord _ _ (by omega)]
  have e : ∀ n, 24 ≤ n → decide (n = i) = false := fun n hn => by simp; omega
  simp only [e _ (Nat.le_refl 24), e 25 (by omega), e 26 (by omega), e 27 (by omega),
    e 28 (by omega), e 29 (by omega), e 30 (by omega), e 31 (by omega), e 32 (by omega),
    Bool.false_and, Bool.or_false]

/-- The fields of an access are read back from its word (30_encoding.md R54). -/
theorem twAccess_accessWord (a : Access) : twAccess (accessWord a) = a := by
  obtain ⟨off, sel, data⟩ := a
  obtain ⟨r1, r2, r3, b1, b2, b3, b5, i2, i3⟩ := sel
  simp only [twAccess, Access.mk.injEq, Selects.mk.injEq]
  refine ⟨?_, ⟨?_, ?_, ?_, ?_, ?_, ?_, ?_, ?_, ?_⟩, ?_⟩
  case refine_1 =>
    apply BitVec.eq_of_getLsbD_eq
    intro i hi
    have hd : data.getLsbD (8 + i) = false := BitVec.getLsbD_of_ge _ _ (by omega)
    rw [BitVec.getLsbD_extractLsb', getLsbD_accessWord _ _ (by omega),
      getLsbD_selectsWord_low _ _ (by omega), hd]
    simp [hi]
  case refine_11 =>
    apply BitVec.eq_of_getLsbD_eq
    intro i hi
    rw [BitVec.getLsbD_extractLsb', getLsbD_accessWord _ _ (by omega),
      getLsbD_selectsWord_low _ _ (by omega)]
    simp [hi]
  all_goals
    rw [getLsbD_accessWord _ _ (by decide), getLsbD_selectsWord _ _ (by decide),
      BitVec.getLsbD_of_ge data _ (by decide), BitVec.getLsbD_of_ge off _ (by decide)]
    simp

@[simp] theorem accessWord_bit34 (a : Access) : (accessWord a).getLsbD 34 = false := by
  rw [getLsbD_accessWord _ _ (by decide), getLsbD_selectsWord _ _ (by decide),
    BitVec.getLsbD_of_ge a.data _ (by decide), BitVec.getLsbD_of_ge a.off _ (by decide)]
  simp

@[simp] theorem accessWord_bit33 (a : Access) : (accessWord a).getLsbD 33 = false := by
  rw [getLsbD_accessWord _ _ (by decide), getLsbD_selectsWord _ _ (by decide),
    BitVec.getLsbD_of_ge a.data _ (by decide), BitVec.getLsbD_of_ge a.off _ (by decide)]
  simp

/-- The RW bit is no part of an access. -/
theorem twAccess_or_rw (t : TW) : twAccess (0x200000000 ||| t) = twAccess t := by
  have h : ∀ i, i < 33 → (0x200000000 : TW).getLsbD i = false := by decide
  simp only [twAccess, BitVec.getLsbD_or, Access.mk.injEq, Selects.mk.injEq]
  refine ⟨?_, ⟨?_, ?_, ?_, ?_, ?_, ?_, ?_, ?_, ?_⟩, ?_⟩
  case refine_1 =>
    apply BitVec.eq_of_getLsbD_eq
    intro i hi
    rw [BitVec.getLsbD_extractLsb', BitVec.getLsbD_extractLsb', BitVec.getLsbD_or,
      h _ (by omega), Bool.false_or]
  case refine_11 =>
    apply BitVec.eq_of_getLsbD_eq
    intro i hi
    rw [BitVec.getLsbD_extractLsb', BitVec.getLsbD_extractLsb', BitVec.getLsbD_or,
      h _ (by omega), Bool.false_or]
  all_goals rw [h _ (by decide), Bool.false_or]

/-- Every operation is read back from its own word (30_encoding.md R54). -/
theorem twTransaction_transactionWord (tx : Transaction) :
    twTransaction (transactionWord tx) = tx := by
  cases tx with
  | reset => rfl
  | read a =>
    rw [transactionWord, twTransaction, accessWord_bit34, accessWord_bit33, twAccess_accessWord]
    simp
  | write a =>
    have h34 : (0x200000000 ||| accessWord a).getLsbD 34 = false := by
      rw [BitVec.getLsbD_or, accessWord_bit34]; decide
    have h33 : (0x200000000 ||| accessWord a).getLsbD 33 = true := by
      rw [BitVec.getLsbD_or, accessWord_bit33]; decide
    rw [transactionWord, twTransaction, h34, h33, twAccess_or_rw, twAccess_accessWord]
    simp

theorem getLsbD_makeKey (t : TW) (m v : Byte) (latch : Bool) (i : Nat) (hi : i < 52) :
    (makeKey t m v latch).getLsbD i =
      (t.getLsbD i || (!decide (i < 35) && m.getLsbD (i - 35))
        || (!decide (i < 43) && v.getLsbD (i - 43)) || (decide (i = 51) && latch)) := by
  have h51 : (!decide (i < 51) && (BitVec.ofBool latch).getLsbD (i - 51))
      = (decide (i = 51) && latch) := by
    by_cases h : i = 51
    · simp [h]
    · have h' : i < 51 := by omega
      simp [h, h']
  simp only [makeKey, BitVec.getLsbD_or, BitVec.getLsbD_shiftLeft, BitVec.getLsbD_setWidth, hi,
    decide_true, Bool.true_and, show i - 35 < 52 by omega, show i - 43 < 52 by omega,
    show i - 51 < 52 by omega, h51]

/-- The key holds the word and the registers it was made of (30_encoding.md R57). -/
theorem keyView_makeKey (t : TW) (m v : Byte) (latch : Bool) :
    keyView (makeKey t m v latch) = { tx := twTransaction t, m := m, v := v, latch := latch } := by
  simp only [keyView, KeyView.mk.injEq]
  refine ⟨?_, ?_, ?_, ?_⟩
  · congr 1
    apply BitVec.eq_of_getLsbD_eq
    intro i hi
    rw [BitVec.getLsbD_extractLsb', getLsbD_makeKey _ _ _ _ _ (by omega)]
    have h1 : 0 + i < 43 := by omega
    have h2 : ¬ (0 + i = 51) := by omega
    simp_all
  · apply BitVec.eq_of_getLsbD_eq
    intro i hi
    rw [BitVec.getLsbD_extractLsb', getLsbD_makeKey _ _ _ _ _ (by omega),
      BitVec.getLsbD_of_ge t _ (by omega)]
    have h1 : 35 + i < 43 := by omega
    have h2 : ¬ (35 + i = 51) := by omega
    simp [hi, h1, h2]
  · apply BitVec.eq_of_getLsbD_eq
    intro i hi
    rw [BitVec.getLsbD_extractLsb', getLsbD_makeKey _ _ _ _ _ (by omega),
      BitVec.getLsbD_of_ge t _ (by omega), BitVec.getLsbD_of_ge m _ (by omega)]
    have h2 : ¬ (43 + i = 51) := by omega
    simp [hi, h2]
  · rw [getLsbD_makeKey _ _ _ _ _ (by omega), BitVec.getLsbD_of_ge t _ (by omega),
      BitVec.getLsbD_of_ge m _ (by omega), BitVec.getLsbD_of_ge v _ (by omega)]
    simp

@[simp] theorem keyView_key (s : State) (t : TW) :
    keyView (s.key t) = { tx := twTransaction t, m := s.m, v := s.v, latch := s.latch } :=
  keyView_makeKey t s.m s.v s.latch

end Sys2Proof
end

