-- ==== Sys2Proof/Laws/Memory.lean ====
section
/-! SUPPORT. The laws of a byte store: read after write, the canonical form, and writing twice. -/

namespace Sys2Proof.Machine

theorem memWfFrom_mono {mem : Memory} {low low' : Nat} (h : low' ≤ low)
    (hwf : memWfFrom low mem = true) : memWfFrom low' mem = true := by
  cases mem with
  | nil => rfl
  | cons cell rest =>
    obtain ⟨b, y⟩ := cell
    simp only [memWfFrom, Bool.and_eq_true, decide_eq_true_eq] at hwf ⊢
    exact ⟨⟨⟨by omega, hwf.1.1.2⟩, hwf.1.2⟩, hwf.2⟩

/-- An address below every listed one reads as an unlisted byte. -/
theorem memRead_below {mem : Memory} {low a : Nat} (hwf : memWfFrom low mem = true) (h : a < low) :
    memRead mem a = unlistedByte := by
  induction mem generalizing low with
  | nil => rfl
  | cons cell rest ih =>
    obtain ⟨b, y⟩ := cell
    simp only [memWfFrom, Bool.and_eq_true, decide_eq_true_eq] at hwf
    have hne : a ≠ b := by omega
    simp only [memRead, hne, if_false]
    exact ih hwf.2 (by omega)

/-- A write leaves every other address alone, in any list. -/
theorem memRead_memWrite_other (mem : Memory) {a c : Nat} (x : Byte) (h : c ≠ a) :
    memRead (memWrite mem a x) c = memRead mem c := by
  induction mem with
  | nil => by_cases hx : x = unlistedByte <;> simp [memWrite, memRead, hx, h]
  | cons cell rest ih =>
    obtain ⟨b, y⟩ := cell
    by_cases hlt : a < b
    · by_cases hx : x = unlistedByte <;> simp [memWrite, memRead, hlt, hx, h]
    · by_cases heq : a = b
      · subst heq
        by_cases hx : x = unlistedByte <;> simp [memWrite, memRead, hx, h]
      · simp [memWrite, memRead, hlt, heq, ih]

/-- Read after write, in a canonical store. -/
theorem memRead_memWrite_same_from {mem : Memory} {low : Nat} (hwf : memWfFrom low mem = true)
    (a : Nat) (x : Byte) : memRead (memWrite mem a x) a = x := by
  induction mem generalizing low with
  | nil => by_cases hx : x = unlistedByte <;> simp [memWrite, memRead, hx]
  | cons cell rest ih =>
    obtain ⟨b, y⟩ := cell
    have hcons := hwf
    simp only [memWfFrom, Bool.and_eq_true, decide_eq_true_eq] at hwf
    by_cases hlt : a < b
    · by_cases hx : x = unlistedByte
      · have hne : a ≠ b := by omega
        simp only [memWrite, hlt, hx, if_true, memRead, hne, if_false]
        exact memRead_below hwf.2 (by omega)
      · simp [memWrite, memRead, hlt, hx]
    · by_cases heq : a = b
      · subst heq
        by_cases hx : x = unlistedByte
        · simp only [memWrite, hx, if_true, lt_irrefl, if_false]
          exact memRead_below hwf.2 (by omega)
        · simp [memWrite, memRead, hx]
      · simp only [memWrite, hlt, heq, if_false, memRead]
        exact ih hwf.2

theorem memRead_memWrite_same {mem : Memory} (hwf : memWf mem = true) (a : Nat) (x : Byte) :
    memRead (memWrite mem a x) a = x :=
  memRead_memWrite_same_from hwf a x

/-- A write inside the store keeps the canonical form. -/
theorem memWfFrom_memWrite {mem : Memory} {low a : Nat} (x : Byte) (hlow : low ≤ a)
    (ha : a < storeSize) (hwf : memWfFrom low mem = true) :
    memWfFrom low (memWrite mem a x) = true := by
  induction mem generalizing low with
  | nil => by_cases hx : x = unlistedByte <;> simp [memWrite, memWfFrom, hx, hlow, ha]
  | cons cell rest ih =>
    obtain ⟨b, y⟩ := cell
    have hcons := hwf
    simp only [memWfFrom, Bool.and_eq_true, decide_eq_true_eq] at hwf
    by_cases hlt : a < b
    · by_cases hx : x = unlistedByte
      · simp only [memWrite, hlt, hx, if_true]; exact hcons
      · simp only [memWrite, hlt, hx, if_true, if_false, memWfFrom, Bool.and_eq_true,
          decide_eq_true_eq, bne_iff_ne]
        exact ⟨⟨⟨hlow, ha⟩, hx⟩, ⟨⟨by omega, hwf.1.1.2⟩, by simpa using hwf.1.2⟩, hwf.2⟩
    · by_cases heq : a = b
      · subst heq
        by_cases hx : x = unlistedByte
        · simp only [memWrite, hx, if_true, lt_irrefl, if_false]
          exact memWfFrom_mono (by omega) hwf.2
        · simp [memWrite, memWfFrom, hx, hlow, ha, hwf.2]
      · simp only [memWrite, hlt, heq, if_false, memWfFrom, Bool.and_eq_true, decide_eq_true_eq]
        exact ⟨hwf.1, ih (by omega) hwf.2⟩

theorem memWf_memWrite {mem : Memory} {a : Nat} (x : Byte) (ha : a < storeSize)
    (hwf : memWf mem = true) : memWf (memWrite mem a x) = true :=
  memWfFrom_memWrite x (Nat.zero_le a) ha hwf

/-- A physical address lies inside the store. -/
theorem physAddr_lt_storeSize (p : PhysAddr) : p.toNat < storeSize :=
  p.isLt

/-- A canonical store already holding `x` at `a` is not changed by writing it again. -/
theorem memWrite_same_from {mem : Memory} {low a : Nat} {x : Byte}
    (hwf : memWfFrom low mem = true) (h : memRead mem a = x) : memWrite mem a x = mem := by
  induction mem generalizing low with
  | nil => subst h; rfl
  | cons cell rest ih =>
    obtain ⟨b, y⟩ := cell
    simp only [memWfFrom, Bool.and_eq_true, decide_eq_true_eq, bne_iff_ne] at hwf
    by_cases hlt : a < b
    · have hne : a ≠ b := by omega
      have hx : x = unlistedByte := by
        rw [← h]; simp only [memRead, hne, if_false]
        exact memRead_below hwf.2 (by omega)
      simp [memWrite, hlt, hx]
    · by_cases heq : a = b
      · subst heq
        have hx : y = x := by simpa [memRead] using h
        subst hx
        simp [memWrite, hwf.1.2]
      · have h' : memRead rest a = x := by simpa [memRead, heq] using h
        simp [memWrite, hlt, heq, ih hwf.2 h']

/-- Writing the same byte twice is writing it once: why two fired rows of window 0 equal one
(30_encoding.md R57). -/
theorem memWrite_memWrite {mem : Memory} (hwf : memWf mem = true) {a : Nat} (x : Byte)
    (ha : a < storeSize) : memWrite (memWrite mem a x) a x = memWrite mem a x :=
  memWrite_same_from (memWf_memWrite x ha hwf) (memRead_memWrite_same hwf a x)

/-- What `RomRead` can do: it answers a byte and leaves the image alone. -/
theorem romWf_romRead {r : Rom} (p : PhysAddr) (h : romWf r = true) : romWf (romRead r p).2 = true := by
  cases r <;> exact h

theorem romWf_romWrite {r : Rom} (p : PhysAddr) (x : Byte) (h : romWf r = true) :
    romWf (romWrite r p x) = true := by
  cases r with
  | external _ => rfl
  | readOnly _ => exact h
  | byteArray _ => exact memWf_memWrite x (physAddr_lt_storeSize p) h

/-- Two canonical stores that read alike are equal. -/
theorem memWf_ext_from {mem mem' : Memory} {low : Nat} (h : memWfFrom low mem = true)
    (h' : memWfFrom low mem' = true) (hread : ∀ a, memRead mem a = memRead mem' a) : mem = mem' := by
  induction mem generalizing mem' low with
  | nil =>
    cases mem' with
    | nil => rfl
    | cons cell rest =>
      obtain ⟨b, y⟩ := cell
      simp only [memWfFrom, Bool.and_eq_true, bne_iff_ne] at h'
      exact absurd (by simpa [memRead] using (hread b).symm) h'.1.2
  | cons cell rest ih =>
    obtain ⟨b, y⟩ := cell
    simp only [memWfFrom, Bool.and_eq_true, decide_eq_true_eq, bne_iff_ne] at h
    cases mem' with
    | nil => exact absurd (by simpa [memRead] using hread b) h.1.2
    | cons cell' rest' =>
      obtain ⟨b', y'⟩ := cell'
      simp only [memWfFrom, Bool.and_eq_true, decide_eq_true_eq, bne_iff_ne] at h'
      have hb : b = b' := by
        rcases Nat.lt_trichotomy b b' with hlt | heq | hgt
        · have hz := hread b
          have hne : b ≠ b' := by omega
          simp only [memRead, if_true, hne, if_false] at hz
          rw [memRead_below h'.2 (by omega)] at hz
          exact absurd hz h.1.2
        · exact heq
        · have hz := hread b'
          have hne : b' ≠ b := by omega
          simp only [memRead, if_true, hne, if_false] at hz
          rw [memRead_below h.2 (by omega)] at hz
          exact absurd hz.symm h'.1.2
      subst hb
      have hy : y = y' := by simpa [memRead] using hread b
      subst hy
      congr 1
      refine ih h.2 h'.2 fun a => ?_
      by_cases ha : a = b
      · subst ha
        rw [memRead_below h.2 (by omega), memRead_below h'.2 (by omega)]
      · simpa [memRead, ha] using hread a

end Sys2Proof.Machine
end

