-- ==== Sys2Proof/Laws/State.lean ====
section
/-! SUPPORT. One lemma per field per update of the state, so that no proof unfolds a record update. -/

namespace Sys2Proof.Machine

@[simp] theorem State.drive_m (s : State) (b : Byte) : (s.drive b).m = s.m := rfl

@[simp] theorem State.drive_v (s : State) (b : Byte) : (s.drive b).v = s.v := rfl

@[simp] theorem State.drive_latch (s : State) (b : Byte) : (s.drive b).latch = s.latch := rfl

@[simp] theorem State.drive_ram (s : State) (b : Byte) : (s.drive b).ram = s.ram := rfl

@[simp] theorem State.drive_rom (s : State) (b : Byte) : (s.drive b).rom = s.rom := rfl

@[simp] theorem State.drive_cfg (s : State) (b : Byte) : (s.drive b).cfg = s.cfg := rfl

@[simp] theorem State.drive_pending (s : State) (b : Byte) : (s.drive b).pending = s.pending := rfl

@[simp] theorem State.drive_out (s : State) (b : Byte) : (s.drive b).out = some { d := b, drv := true } := rfl

@[simp] theorem State.lock_m (s : State) : (s.lock).m = s.m := rfl

@[simp] theorem State.lock_v (s : State) : (s.lock).v = s.v := rfl

@[simp] theorem State.lock_latch (s : State) : (s.lock).latch = true := rfl

@[simp] theorem State.lock_ram (s : State) : (s.lock).ram = s.ram := rfl

@[simp] theorem State.lock_rom (s : State) : (s.lock).rom = s.rom := rfl

@[simp] theorem State.lock_cfg (s : State) : (s.lock).cfg = s.cfg := rfl

@[simp] theorem State.lock_pending (s : State) : (s.lock).pending = s.pending := rfl

@[simp] theorem State.lock_out (s : State) : (s.lock).out = s.out := rfl

@[simp] theorem State.unlock_m (s : State) : (s.unlock).m = s.m := rfl

@[simp] theorem State.unlock_v (s : State) : (s.unlock).v = s.v := rfl

@[simp] theorem State.unlock_latch (s : State) : (s.unlock).latch = false := rfl

@[simp] theorem State.unlock_ram (s : State) : (s.unlock).ram = s.ram := rfl

@[simp] theorem State.unlock_rom (s : State) : (s.unlock).rom = s.rom := rfl

@[simp] theorem State.unlock_cfg (s : State) : (s.unlock).cfg = s.cfg := rfl

@[simp] theorem State.unlock_pending (s : State) : (s.unlock).pending = s.pending := rfl

@[simp] theorem State.unlock_out (s : State) : (s.unlock).out = s.out := rfl

@[simp] theorem State.resetRegisters_m (s : State) : (s.resetRegisters).m = resetM := rfl

@[simp] theorem State.resetRegisters_v (s : State) : (s.resetRegisters).v = resetV := rfl

@[simp] theorem State.resetRegisters_latch (s : State) : (s.resetRegisters).latch = resetL := rfl

@[simp] theorem State.resetRegisters_ram (s : State) : (s.resetRegisters).ram = s.ram := rfl

@[simp] theorem State.resetRegisters_rom (s : State) : (s.resetRegisters).rom = s.rom := rfl

@[simp] theorem State.resetRegisters_cfg (s : State) : (s.resetRegisters).cfg = s.cfg := rfl

@[simp] theorem State.resetRegisters_pending (s : State) : (s.resetRegisters).pending = s.pending := rfl

@[simp] theorem State.resetRegisters_out (s : State) : (s.resetRegisters).out = s.out := rfl

@[simp] theorem State.begin_m (s : State) (t : TW) (rest : List TW) : (s.begin t rest).m = s.m := rfl

@[simp] theorem State.begin_v (s : State) (t : TW) (rest : List TW) : (s.begin t rest).v = s.v := rfl

@[simp] theorem State.begin_latch (s : State) (t : TW) (rest : List TW) : (s.begin t rest).latch = s.latch := rfl

@[simp] theorem State.begin_ram (s : State) (t : TW) (rest : List TW) : (s.begin t rest).ram = s.ram := rfl

@[simp] theorem State.begin_rom (s : State) (t : TW) (rest : List TW) : (s.begin t rest).rom = s.rom := rfl

@[simp] theorem State.begin_cfg (s : State) (t : TW) (rest : List TW) : (s.begin t rest).cfg = s.cfg := rfl

@[simp] theorem State.begin_pending (s : State) (t : TW) (rest : List TW) : (s.begin t rest).pending = rest := rfl

@[simp] theorem State.begin_out (s : State) (t : TW) (rest : List TW) : (s.begin t rest).out = initialOut (twTransaction t) := rfl

@[simp] theorem State.issue_m (s : State) (t : TW) : (s.issue t).m = s.m := rfl

@[simp] theorem State.issue_v (s : State) (t : TW) : (s.issue t).v = s.v := rfl

@[simp] theorem State.issue_latch (s : State) (t : TW) : (s.issue t).latch = s.latch := rfl

@[simp] theorem State.issue_ram (s : State) (t : TW) : (s.issue t).ram = s.ram := rfl

@[simp] theorem State.issue_rom (s : State) (t : TW) : (s.issue t).rom = s.rom := rfl

@[simp] theorem State.issue_cfg (s : State) (t : TW) : (s.issue t).cfg = s.cfg := rfl

@[simp] theorem State.issue_pending (s : State) (t : TW) : (s.issue t).pending = s.pending ++ [t] := rfl

@[simp] theorem State.issue_out (s : State) (t : TW) : (s.issue t).out = s.out := rfl

@[simp] theorem State.withKey_m (s : State) (k : Key) : (s.withKey k).m = (keyView k).m := rfl

@[simp] theorem State.withKey_v (s : State) (k : Key) : (s.withKey k).v = (keyView k).v := rfl

@[simp] theorem State.withKey_latch (s : State) (k : Key) : (s.withKey k).latch = (keyView k).latch := rfl

@[simp] theorem State.withKey_ram (s : State) (k : Key) : (s.withKey k).ram = s.ram := rfl

@[simp] theorem State.withKey_rom (s : State) (k : Key) : (s.withKey k).rom = s.rom := rfl

@[simp] theorem State.withKey_cfg (s : State) (k : Key) : (s.withKey k).cfg = s.cfg := rfl

@[simp] theorem State.withKey_pending (s : State) (k : Key) : (s.withKey k).pending = k.extractLsb' 0 35 :: s.pending := rfl

@[simp] theorem State.withKey_out (s : State) (k : Key) : (s.withKey k).out = s.out := rfl

@[simp] theorem State.restore_m (s : State) (f : Saved) : (s.restore f).m = f.m := rfl

@[simp] theorem State.restore_v (s : State) (f : Saved) : (s.restore f).v = f.v := rfl

@[simp] theorem State.restore_latch (s : State) (f : Saved) : (s.restore f).latch = f.latch := rfl

@[simp] theorem State.restore_ram (s : State) (f : Saved) : (s.restore f).ram = s.ram := rfl

@[simp] theorem State.restore_rom (s : State) (f : Saved) : (s.restore f).rom = s.rom := rfl

@[simp] theorem State.restore_cfg (s : State) (f : Saved) : (s.restore f).cfg = s.cfg := rfl

@[simp] theorem State.restore_pending (s : State) (f : Saved) : (s.restore f).pending = s.pending := rfl

@[simp] theorem State.restore_out (s : State) (f : Saved) : (s.restore f).out = s.out := rfl

@[simp] theorem State.driveFrom_m (s : State) (st : Store) (p : PhysAddr) : (s.driveFrom st p).m = s.m :=
  by cases st <;> rfl

@[simp] theorem State.driveFrom_v (s : State) (st : Store) (p : PhysAddr) : (s.driveFrom st p).v = s.v :=
  by cases st <;> rfl

@[simp] theorem State.driveFrom_latch (s : State) (st : Store) (p : PhysAddr) : (s.driveFrom st p).latch = s.latch :=
  by cases st <;> rfl

@[simp] theorem State.driveFrom_ram (s : State) (st : Store) (p : PhysAddr) : (s.driveFrom st p).ram = s.ram :=
  by cases st <;> rfl

@[simp] theorem State.driveFrom_cfg (s : State) (st : Store) (p : PhysAddr) : (s.driveFrom st p).cfg = s.cfg :=
  by cases st <;> rfl

@[simp] theorem State.driveFrom_pending (s : State) (st : Store) (p : PhysAddr) : (s.driveFrom st p).pending = s.pending :=
  by cases st <;> rfl

@[simp] theorem State.storeTo_m (s : State) (st : Store) (p : PhysAddr) (b : Byte) : (s.storeTo st p b).m = s.m :=
  by cases st <;> rfl

@[simp] theorem State.storeTo_v (s : State) (st : Store) (p : PhysAddr) (b : Byte) : (s.storeTo st p b).v = s.v :=
  by cases st <;> rfl

@[simp] theorem State.storeTo_latch (s : State) (st : Store) (p : PhysAddr) (b : Byte) : (s.storeTo st p b).latch = s.latch :=
  by cases st <;> rfl

@[simp] theorem State.storeTo_cfg (s : State) (st : Store) (p : PhysAddr) (b : Byte) : (s.storeTo st p b).cfg = s.cfg :=
  by cases st <;> rfl

@[simp] theorem State.storeTo_pending (s : State) (st : Store) (p : PhysAddr) (b : Byte) : (s.storeTo st p b).pending = s.pending :=
  by cases st <;> rfl

@[simp] theorem State.storeTo_out (s : State) (st : Store) (p : PhysAddr) (b : Byte) : (s.storeTo st p b).out = s.out :=
  by cases st <;> rfl

@[simp] theorem State.setReg_latch (s : State) (second : Bool) (b : Byte) : (s.setReg second b).latch = s.latch :=
  by cases second <;> rfl

@[simp] theorem State.setReg_ram (s : State) (second : Bool) (b : Byte) : (s.setReg second b).ram = s.ram :=
  by cases second <;> rfl

@[simp] theorem State.setReg_rom (s : State) (second : Bool) (b : Byte) : (s.setReg second b).rom = s.rom :=
  by cases second <;> rfl

@[simp] theorem State.setReg_cfg (s : State) (second : Bool) (b : Byte) : (s.setReg second b).cfg = s.cfg :=
  by cases second <;> rfl

@[simp] theorem State.setReg_pending (s : State) (second : Bool) (b : Byte) : (s.setReg second b).pending = s.pending :=
  by cases second <;> rfl

@[simp] theorem State.setReg_out (s : State) (second : Bool) (b : Byte) : (s.setReg second b).out = s.out :=
  by cases second <;> rfl

@[simp] theorem State.driveFrom_ram_out (s : State) (p : PhysAddr) :
    (s.driveFrom .ram p).out = some { d := s.ramByte p, drv := true } := rfl

@[simp] theorem State.driveFrom_rom_out (s : State) (p : PhysAddr) :
    (s.driveFrom .rom p).out = some { d := (romRead s.rom p).1, drv := true } := rfl

@[simp] theorem State.driveFrom_ram_rom (s : State) (p : PhysAddr) :
    (s.driveFrom .ram p).rom = s.rom := rfl

@[simp] theorem State.driveFrom_rom_rom (s : State) (p : PhysAddr) :
    (s.driveFrom .rom p).rom = (romRead s.rom p).2 := rfl

@[simp] theorem State.storeTo_ram_ram (s : State) (p : PhysAddr) (b : Byte) :
    (s.storeTo .ram p b).ram = memWrite s.ram p.toNat b := rfl

@[simp] theorem State.storeTo_rom_ram (s : State) (p : PhysAddr) (b : Byte) :
    (s.storeTo .rom p b).ram = s.ram := rfl

@[simp] theorem State.storeTo_ram_rom (s : State) (p : PhysAddr) (b : Byte) :
    (s.storeTo .ram p b).rom = s.rom := rfl

@[simp] theorem State.storeTo_rom_rom (s : State) (p : PhysAddr) (b : Byte) :
    (s.storeTo .rom p b).rom = romWrite s.rom p b := rfl

@[simp] theorem State.setReg_first_m (s : State) (b : Byte) : (s.setReg false b).m = b := rfl

@[simp] theorem State.setReg_first_v (s : State) (b : Byte) : (s.setReg false b).v = s.v := rfl

@[simp] theorem State.setReg_second_m (s : State) (b : Byte) : (s.setReg true b).m = s.m := rfl

@[simp] theorem State.setReg_second_v (s : State) (b : Byte) : (s.setReg true b).v = b := rfl

/-! The operands of a state depend on `m`, `v`, `latch` and `cfg` only. -/

theorem State.mode_congr {s t : State} (hm : t.m = s.m) (hc : t.cfg = s.cfg) : t.mode = s.mode := by
  simp [State.mode, hm, hc]

theorem State.bank_congr {s t : State} (hm : t.m = s.m) : t.bank = s.bank := by
  simp [State.bank, hm]

theorem State.sel_congr {s t : State} (hm : t.m = s.m) (hc : t.cfg = s.cfg) (w : Window) :
    t.sel w = s.sel w := by
  simp [State.sel, hm, hc]

theorem State.vis_congr {s t : State} (hv : t.v = s.v) (hc : t.cfg = s.cfg) (r : Region) :
    t.vis r = s.vis r := by
  simp [State.vis, hv, hc]

theorem State.addr_congr {s t : State} (hv : t.v = s.v) (hc : t.cfg = s.cfg) (bank : BitVec 7)
    (block : BitVec 2) (a : Access) : t.addr bank block a = s.addr bank block a := by
  simp [State.addr, hv, hc]

theorem State.granted_congr {s t : State} (hm : t.m = s.m) (hv : t.v = s.v)
    (hl : t.latch = s.latch) (hc : t.cfg = s.cfg) (a : Access) : t.granted a = s.granted a := by
  simp [State.granted, hm, hv, hl, hc]

end Sys2Proof.Machine
end

