-- ==== Sys2Proof/Laws/Ops.lean ====
section
/-! SUPPORT. For each shared operation, one lemma that says once everything it can do, and what every
read-path and every write-path operation leaves unchanged. -/

namespace Sys2Proof.Machine

/-! ### The AddressTranslator -/

/-- Only the low four bits of the bank reach a store under the default BANK_MASK (R72). -/
theorem translate_bank_masked (c : Config) (v : Byte) (bank : BitVec 7) (block : BitVec 2)
    (off : BitVec 13) :
    translate c v (bank &&& c.bankMask) block off = translate c v bank block off := by
  simp [translate, BitVec.and_assoc]

/-- SWAP is all that the AddressTranslator reads of `V` (R71). -/
theorem translate_congr {c : Config} {v v' : Byte} (h : swapField v = swapField v') (bank : BitVec 7)
    (block : BitVec 2) (off : BitVec 13) :
    translate c v bank block off = translate c v' bank block off := by
  simp [translate, h]

/-! ### The read path -/

/-- What a read-path operation leaves unchanged: all but `out` and the external device. -/
structure ReadFrame (s t : State) : Prop where
  m       : t.m = s.m
  v       : t.v = s.v
  latch   : t.latch = s.latch
  ram     : t.ram = s.ram
  cfg     : t.cfg = s.cfg
  pending : t.pending = s.pending

theorem ReadFrame.refl (s : State) : ReadFrame s s :=
  ⟨rfl, rfl, rfl, rfl, rfl, rfl⟩

theorem ReadFrame.trans {s t u : State} (h : ReadFrame s t) (k : ReadFrame t u) : ReadFrame s u :=
  ⟨k.m.trans h.m, k.v.trans h.v, k.latch.trans h.latch, k.ram.trans h.ram, k.cfg.trans h.cfg,
    k.pending.trans h.pending⟩

theorem drive_readFrame (s : State) (b : Byte) : ReadFrame s (s.drive b) :=
  ⟨rfl, rfl, rfl, rfl, rfl, rfl⟩

theorem driveFrom_readFrame (s : State) (st : Store) (p : PhysAddr) :
    ReadFrame s (s.driveFrom st p) := by
  cases st <;> exact ⟨rfl, rfl, rfl, rfl, rfl, rfl⟩

theorem readW0_cases (s : State) (md : Mode) (asserted : Bool) (a : Access) :
    ((s.mode = md ∧ asserted = true ∧ s.vis .w0 = true) ∧
      s.readW0 md asserted a = s.driveFrom .ram (s.addr 0 0 a)) ∨
    (¬ (s.mode = md ∧ asserted = true ∧ s.vis .w0 = true) ∧ s.readW0 md asserted a = s) := by
  by_cases h : s.mode = md ∧ asserted = true ∧ s.vis .w0 = true
  · exact .inl ⟨h, if_pos h⟩
  · exact .inr ⟨h, if_neg h⟩

theorem readW0_frame (s : State) (md : Mode) (asserted : Bool) (a : Access) :
    ReadFrame s (s.readW0 md asserted a) := by
  rcases readW0_cases s md asserted a with ⟨-, h⟩ | ⟨-, h⟩ <;> rw [h]
  · exact driveFrom_readFrame s _ _
  · exact .refl s

theorem readWindow_cases (s : State) (md : Mode) (w : Window) (st : Store) (bank : BitVec 7)
    (a : Access) :
    ((s.mode = md ∧ selectsWindow a w = true ∧ s.vis (.win w) = true) ∧
      s.readWindow md w st bank a = s.driveFrom st (s.addr bank (blockOf w) a)) ∨
    (¬ (s.mode = md ∧ selectsWindow a w = true ∧ s.vis (.win w) = true) ∧
      s.readWindow md w st bank a = s) := by
  by_cases h : s.mode = md ∧ selectsWindow a w = true ∧ s.vis (.win w) = true
  · exact .inl ⟨h, if_pos h⟩
  · exact .inr ⟨h, if_neg h⟩

theorem readWindow_frame (s : State) (md : Mode) (w : Window) (st : Store) (bank : BitVec 7)
    (a : Access) : ReadFrame s (s.readWindow md w st bank a) := by
  rcases readWindow_cases s md w st bank a with ⟨-, h⟩ | ⟨-, h⟩ <;> rw [h]
  · exact driveFrom_readFrame s _ _
  · exact .refl s

theorem readWindowSel_cases (s : State) (md : Mode) (w : Window) (bit : Bool) (st : Store)
    (bank : BitVec 7) (a : Access) :
    (s.sel w = bit ∧ s.readWindowSel md w bit st bank a = s.readWindow md w st bank a) ∨
    (s.sel w ≠ bit ∧ s.readWindowSel md w bit st bank a = s) := by
  by_cases h : s.sel w = bit
  · exact .inl ⟨h, if_pos h⟩
  · exact .inr ⟨h, if_neg h⟩

theorem readWindowSel_frame (s : State) (md : Mode) (w : Window) (bit : Bool) (st : Store)
    (bank : BitVec 7) (a : Access) : ReadFrame s (s.readWindowSel md w bit st bank a) := by
  rcases readWindowSel_cases s md w bit st bank a with ⟨-, h⟩ | ⟨-, h⟩ <;> rw [h]
  · exact readWindow_frame s md w st bank a
  · exact .refl s

theorem readReg_cases (s : State) (md : Mode) (second : Bool) (a : Access) :
    ((s.mode = md ∧ regNo a = second ∧ s.granted a = true) ∧
      s.readReg md second a = s.drive (s.reg second)) ∨
    (¬ (s.mode = md ∧ regNo a = second ∧ s.granted a = true) ∧ s.readReg md second a = s) := by
  by_cases h : s.mode = md ∧ regNo a = second ∧ s.granted a = true
  · exact .inl ⟨h, if_pos h⟩
  · exact .inr ⟨h, if_neg h⟩

theorem readReg_frame (s : State) (md : Mode) (second : Bool) (a : Access) :
    ReadFrame s (s.readReg md second a) := by
  rcases readReg_cases s md second a with ⟨-, h⟩ | ⟨-, h⟩ <;> rw [h]
  · exact drive_readFrame s _
  · exact .refl s

/-- A register read leaves the external device alone. -/
@[simp] theorem readReg_rom (s : State) (md : Mode) (second : Bool) (a : Access) :
    (s.readReg md second a).rom = s.rom := by
  rcases readReg_cases s md second a with ⟨-, h⟩ | ⟨-, h⟩ <;> rw [h]
  rfl

/-- Window 0 reads RamStore, never the external device. -/
@[simp] theorem readW0_rom (s : State) (md : Mode) (asserted : Bool) (a : Access) :
    (s.readW0 md asserted a).rom = s.rom := by
  rcases readW0_cases s md asserted a with ⟨-, h⟩ | ⟨-, h⟩ <;> rw [h]
  rfl

/-! ### The write path -/

/-- What a store-path operation leaves unchanged: all but the two stores. -/
structure StoreFrame (s t : State) : Prop where
  m       : t.m = s.m
  v       : t.v = s.v
  latch   : t.latch = s.latch
  cfg     : t.cfg = s.cfg
  pending : t.pending = s.pending
  out     : t.out = s.out

theorem StoreFrame.refl (s : State) : StoreFrame s s :=
  ⟨rfl, rfl, rfl, rfl, rfl, rfl⟩

theorem StoreFrame.trans {s t u : State} (h : StoreFrame s t) (k : StoreFrame t u) :
    StoreFrame s u :=
  ⟨k.m.trans h.m, k.v.trans h.v, k.latch.trans h.latch, k.cfg.trans h.cfg,
    k.pending.trans h.pending, k.out.trans h.out⟩

theorem storeTo_storeFrame (s : State) (st : Store) (p : PhysAddr) (b : Byte) :
    StoreFrame s (s.storeTo st p b) := by
  cases st <;> exact ⟨rfl, rfl, rfl, rfl, rfl, rfl⟩

/-- A store keeps both stores in canonical form. -/
theorem storeTo_storesWf {s : State} (h : storesWf s = true) (st : Store) (p : PhysAddr) (b : Byte) :
    storesWf (s.storeTo st p b) = true := by
  simp only [storesWf, Bool.and_eq_true] at h ⊢
  cases st with
  | ram => exact ⟨memWf_memWrite b (physAddr_lt_storeSize p) h.1, h.2⟩
  | rom => exact ⟨h.1, romWf_romWrite p b h.2⟩

/-- A read keeps both stores in canonical form. -/
theorem driveFrom_storesWf {s : State} (h : storesWf s = true) (st : Store) (p : PhysAddr) :
    storesWf (s.driveFrom st p) = true := by
  simp only [storesWf, Bool.and_eq_true] at h ⊢
  cases st with
  | ram => exact h
  | rom => exact ⟨h.1, romWf_romRead p h.2⟩

theorem writeW0_cases (s : State) (md : Mode) (asserted : Bool) (a : Access) :
    ((s.mode = md ∧ asserted = true ∧ s.vis .w0 = true) ∧
      s.writeW0 md asserted a = s.storeTo .ram (s.addr 0 0 a) a.data) ∨
    (¬ (s.mode = md ∧ asserted = true ∧ s.vis .w0 = true) ∧ s.writeW0 md asserted a = s) := by
  by_cases h : s.mode = md ∧ asserted = true ∧ s.vis .w0 = true
  · exact .inl ⟨h, if_pos h⟩
  · exact .inr ⟨h, if_neg h⟩

theorem writeW0_frame (s : State) (md : Mode) (asserted : Bool) (a : Access) :
    StoreFrame s (s.writeW0 md asserted a) := by
  rcases writeW0_cases s md asserted a with ⟨-, h⟩ | ⟨-, h⟩ <;> rw [h]
  · exact storeTo_storeFrame s _ _ _
  · exact .refl s

theorem writeWindow_cases (s : State) (md : Mode) (w : Window) (st : Store) (bank : BitVec 7)
    (a : Access) :
    ((s.mode = md ∧ selectsWindow a w = true ∧ s.vis (.win w) = true) ∧
      s.writeWindow md w st bank a = s.storeTo st (s.addr bank (blockOf w) a) a.data) ∨
    (¬ (s.mode = md ∧ selectsWindow a w = true ∧ s.vis (.win w) = true) ∧
      s.writeWindow md w st bank a = s) := by
  by_cases h : s.mode = md ∧ selectsWindow a w = true ∧ s.vis (.win w) = true
  · exact .inl ⟨h, if_pos h⟩
  · exact .inr ⟨h, if_neg h⟩

theorem writeWindow_frame (s : State) (md : Mode) (w : Window) (st : Store) (bank : BitVec 7)
    (a : Access) : StoreFrame s (s.writeWindow md w st bank a) := by
  rcases writeWindow_cases s md w st bank a with ⟨-, h⟩ | ⟨-, h⟩ <;> rw [h]
  · exact storeTo_storeFrame s _ _ _
  · exact .refl s

theorem writeWindowSel_cases (s : State) (md : Mode) (w : Window) (bit : Bool) (st : Store)
    (bank : BitVec 7) (a : Access) :
    (s.sel w = bit ∧ s.writeWindowSel md w bit st bank a = s.writeWindow md w st bank a) ∨
    (s.sel w ≠ bit ∧ s.writeWindowSel md w bit st bank a = s) := by
  by_cases h : s.sel w = bit
  · exact .inl ⟨h, if_pos h⟩
  · exact .inr ⟨h, if_neg h⟩

theorem writeWindowSel_frame (s : State) (md : Mode) (w : Window) (bit : Bool) (st : Store)
    (bank : BitVec 7) (a : Access) : StoreFrame s (s.writeWindowSel md w bit st bank a) := by
  rcases writeWindowSel_cases s md w bit st bank a with ⟨-, h⟩ | ⟨-, h⟩ <;> rw [h]
  · exact writeWindow_frame s md w st bank a
  · exact .refl s

theorem writeReg_cases (s : State) (md : Mode) (second : Bool) (a : Access) :
    ((s.mode = md ∧ regNo a = second ∧ s.granted a = true) ∧
      s.writeReg md second a = s.setReg second a.data) ∨
    (¬ (s.mode = md ∧ regNo a = second ∧ s.granted a = true) ∧ s.writeReg md second a = s) := by
  by_cases h : s.mode = md ∧ regNo a = second ∧ s.granted a = true
  · exact .inl ⟨h, if_pos h⟩
  · exact .inr ⟨h, if_neg h⟩

/-- A register write changes at most the two registers. -/
theorem writeReg_frame (s : State) (md : Mode) (second : Bool) (a : Access) :
    (s.writeReg md second a).latch = s.latch ∧ (s.writeReg md second a).ram = s.ram ∧
      (s.writeReg md second a).rom = s.rom ∧ (s.writeReg md second a).cfg = s.cfg ∧
      (s.writeReg md second a).pending = s.pending ∧ (s.writeReg md second a).out = s.out := by
  rcases writeReg_cases s md second a with ⟨-, h⟩ | ⟨-, h⟩ <;> rw [h]
  · cases second <;> exact ⟨rfl, rfl, rfl, rfl, rfl, rfl⟩
  · exact ⟨rfl, rfl, rfl, rfl, rfl, rfl⟩

/-! ### The step's loop -/

theorem runSlots_nil (t : TW) (s : State) : runSlots t [] s = .next s :=
  rfl

/-- A slot at which no row fires is passed over. -/
theorem runSlots_none {t : TW} {slot : Slot} {slots : List Slot} {s : State}
    (h : decodeSlot s.cfg slot (keyView (s.key t)) = none) :
    runSlots t (slot :: slots) s = runSlots t slots s := by
  simp only [runSlots]; rw [h]

/-- A slot at which a row fires runs it and goes on from the state it leaves. -/
theorem runSlots_some {t : TW} {slot : Slot} {slots : List Slot} {s s' : State} {i : Instr}
    (h : decodeSlot s.cfg slot (keyView (s.key t)) = some i) (hx : exec i s = .next s') :
    runSlots t (slot :: slots) s = runSlots t slots s' := by
  simp only [runSlots]; rw [h]; simp only; rw [hx]

theorem step_idle {s : State} (h : s.pending = []) : step s = .next s := by
  simp [step, h]

theorem step_transact {s : State} {t : TW} {rest : List TW} (h : s.pending = t :: rest) :
    step s = transact t rest s := by
  simp [step, h]

end Sys2Proof.Machine
end

