-- ==== Sys2Proof/Laws/PerInstr.lean ====
section
/-! SUPPORT. Facts about every instruction as syntax, one lemma per constructor (LAWS.json). -/

namespace Sys2Proof.Laws

open Sys2Proof Sys2Proof.Machine

/-- The operand bits of an access reach no bit above the select signals. -/
theorem accessWord_high (a : Access) (i : Nat) (h : 33 ≤ i) : (accessWord a).getLsbD i = false := by
  by_cases hi : i < 35
  · have e : ∀ n, n < 33 → decide (n = i) = false := fun n hn => by simp; omega
    rw [getLsbD_accessWord _ _ hi, getLsbD_selectsWord _ _ hi,
      BitVec.getLsbD_of_ge a.data _ (by omega), BitVec.getLsbD_of_ge a.off _ (by omega),
      e 24 (by decide), e 25 (by decide), e 26 (by decide), e 27 (by decide), e 28 (by decide),
      e 29 (by decide), e 30 (by decide), e 31 (by decide), e 32 (by decide)]
    simp
  · exact BitVec.getLsbD_of_ge _ _ (by omega)

/-- Bit 8 of the word is offset bit 0, the register number. -/
theorem accessWord_bit8 (a : Access) : (accessWord a).getLsbD 8 = regNo a := by
  rw [getLsbD_accessWord _ _ (by decide), getLsbD_selectsWord_low _ _ (by decide),
    BitVec.getLsbD_of_ge a.data _ (by decide)]
  simp [regNo, regIndexBit]

/-- Operand bits set no bit that the row's mask fixes at 0, so the encoded key fires the row. -/
theorem pattern_of_operands {p mask : Key} (a : Access) (hp : p &&& mask = p)
    (hlow : mask &&& ~~~p &&& 0x1FFFFFEFF = 0)
    (h8 : mask.getLsbD 8 = true → p.getLsbD 8 = false → regNo a = false) :
    (p ||| (accessWord a).setWidth 52) &&& mask = p := by
  apply BitVec.eq_of_getLsbD_eq
  intro i hi
  have hpi : (p.getLsbD i && mask.getLsbD i) = p.getLsbD i := by
    rw [← BitVec.getLsbD_and, hp]
  have hlowi : (mask.getLsbD i && !p.getLsbD i && (0x1FFFFFEFF : Key).getLsbD i) = false := by
    have := congrArg (fun x : Key => x.getLsbD i) hlow
    simpa [BitVec.getLsbD_and, BitVec.getLsbD_not, hi] using this
  rw [BitVec.getLsbD_and, BitVec.getLsbD_or, BitVec.getLsbD_setWidth]
  by_cases h33 : 33 ≤ i
  · rw [accessWord_high a i h33]; simpa using hpi
  · by_cases hi8 : i = 8
    · subst hi8
      rw [accessWord_bit8]
      cases hm : mask.getLsbD 8 <;> cases hb : p.getLsbD 8 <;> simp_all
    · have hall : ∀ j, j < 33 → j ≠ 8 → (0x1FFFFFEFF : Key).getLsbD j = true := by decide
      rw [hall i (by omega) hi8] at hlowi
      cases hm : mask.getLsbD i <;> cases hb : p.getLsbD i <;> simp_all

end Sys2Proof.Laws

namespace Sys2Proof.Laws.EncodedKeyFiresRow

open Sys2Proof Sys2Proof.Machine

/-- The key an instruction is encoded to fires that instruction's own row of the opcode table. -/
def Statement (i : Instr) : Prop :=
  i.wellFormed = true → encode i &&& i.row.mask = i.row.pattern

/-- The row's match word under the default MODE_ENC is the table's, lies inside its mask, and fixes
none of the given bits at 0. -/
def rowLiesInMask (r : Row) (bits : Key) : Bool :=
  rowPattern defaultModeEnc r == r.pattern && (r.pattern &&& r.mask == r.pattern)
    && (r.mask &&& ~~~r.pattern &&& bits == 0)

/-- Every row lies inside its mask, and fixes no operand bit at 0 but the register number. -/
theorem row_lies_in_mask (i : Instr) : rowLiesInMask i.row 0x1FFFFFEFF = true := by
  cases i <;> (rw [Instr.row]; decide)

/-- A row fixes the register number at 0 only if it is a row of register 1. -/
theorem row_register_number (i : Instr) (hw : i.wellFormed = true) (a : Access)
    (ha : i.access = some a) (h : i.row.mask.getLsbD 8 = true) (h' : i.row.pattern.getLsbD 8 = false) :
    regNo a = false := by
  cases i
  case reset => exact absurd ha (by rw [Instr.access]; exact Option.some_ne_none a ∘ Eq.symm)
  all_goals
    rw [Instr.access, Option.some.injEq] at ha
    rw [Instr.row] at h h'
    first
      | exact absurd h (by decide)
      | exact absurd h' (by decide)
      | (rw [Instr.wellFormed, Access.namesRegister, Bool.and_eq_true, beq_iff_eq, ha] at hw
         exact hw.2)

theorem every (i : Instr) (a : Access) (ha : i.access = some a) : Statement i := by
  intro hw
  have hr := row_lies_in_mask i
  simp only [rowLiesInMask, Bool.and_eq_true, beq_iff_eq] at hr
  rw [encode, encodeWith, hr.1.1, operandWord, ha]
  exact pattern_of_operands a hr.1.2 hr.2 (row_register_number i hw a ha)

theorem reset : Statement .reset := by
  intro _; decide

theorem rdAnyIo2 (a : Access) : Statement (.rdAnyIo2 a) :=
  every _ a rfl

theorem rdUnusedAny (a : Access) : Statement (.rdUnusedAny a) :=
  every _ a rfl

theorem rdStartW0Ram1 (a : Access) : Statement (.rdStartW0Ram1 a) :=
  every _ a rfl

theorem rdStartW0Ram2 (a : Access) : Statement (.rdStartW0Ram2 a) :=
  every _ a rfl

theorem rdStartW0Ram3 (a : Access) : Statement (.rdStartW0Ram3 a) :=
  every _ a rfl

theorem rdStartW1 (a : Access) : Statement (.rdStartW1 a) :=
  every _ a rfl

theorem rdStartW2 (a : Access) : Statement (.rdStartW2 a) :=
  every _ a rfl

theorem rdStartW3 (a : Access) : Statement (.rdStartW3 a) :=
  every _ a rfl

theorem rdStartW5 (a : Access) : Statement (.rdStartW5 a) :=
  every _ a rfl

theorem rdStartReg1 (a : Access) : Statement (.rdStartReg1 a) :=
  every _ a rfl

theorem rdStartReg2 (a : Access) : Statement (.rdStartReg2 a) :=
  every _ a rfl

theorem rdFlashW0Ram1 (a : Access) : Statement (.rdFlashW0Ram1 a) :=
  every _ a rfl

theorem rdFlashW0Ram2 (a : Access) : Statement (.rdFlashW0Ram2 a) :=
  every _ a rfl

theorem rdFlashW0Ram3 (a : Access) : Statement (.rdFlashW0Ram3 a) :=
  every _ a rfl

theorem rdFlashW1 (a : Access) : Statement (.rdFlashW1 a) :=
  every _ a rfl

theorem rdFlashW2 (a : Access) : Statement (.rdFlashW2 a) :=
  every _ a rfl

theorem rdFlashW3 (a : Access) : Statement (.rdFlashW3 a) :=
  every _ a rfl

theorem rdFlashW5 (a : Access) : Statement (.rdFlashW5 a) :=
  every _ a rfl

theorem rdFlashReg1 (a : Access) : Statement (.rdFlashReg1 a) :=
  every _ a rfl

theorem rdFlashReg2 (a : Access) : Statement (.rdFlashReg2 a) :=
  every _ a rfl

theorem rdSuperRomW0Ram1 (a : Access) : Statement (.rdSuperRomW0Ram1 a) :=
  every _ a rfl

theorem rdSuperRomW0Ram2 (a : Access) : Statement (.rdSuperRomW0Ram2 a) :=
  every _ a rfl

theorem rdSuperRomW0Ram3 (a : Access) : Statement (.rdSuperRomW0Ram3 a) :=
  every _ a rfl

theorem rdSuperRomW1 (a : Access) : Statement (.rdSuperRomW1 a) :=
  every _ a rfl

theorem rdSuperRomW2 (a : Access) : Statement (.rdSuperRomW2 a) :=
  every _ a rfl

theorem rdSuperRomW3 (a : Access) : Statement (.rdSuperRomW3 a) :=
  every _ a rfl

theorem rdSuperRomW5 (a : Access) : Statement (.rdSuperRomW5 a) :=
  every _ a rfl

theorem rdSuperRomReg1 (a : Access) : Statement (.rdSuperRomReg1 a) :=
  every _ a rfl

theorem rdSuperRomReg2 (a : Access) : Statement (.rdSuperRomReg2 a) :=
  every _ a rfl

theorem rdRamRomW0Ram1 (a : Access) : Statement (.rdRamRomW0Ram1 a) :=
  every _ a rfl

theorem rdRamRomW0Ram2 (a : Access) : Statement (.rdRamRomW0Ram2 a) :=
  every _ a rfl

theorem rdRamRomW0Ram3 (a : Access) : Statement (.rdRamRomW0Ram3 a) :=
  every _ a rfl

theorem rdRamRomW1S0 (a : Access) : Statement (.rdRamRomW1S0 a) :=
  every _ a rfl

theorem rdRamRomW1S1 (a : Access) : Statement (.rdRamRomW1S1 a) :=
  every _ a rfl

theorem rdRamRomW2S0 (a : Access) : Statement (.rdRamRomW2S0 a) :=
  every _ a rfl

theorem rdRamRomW2S1 (a : Access) : Statement (.rdRamRomW2S1 a) :=
  every _ a rfl

theorem rdRamRomW3S0 (a : Access) : Statement (.rdRamRomW3S0 a) :=
  every _ a rfl

theorem rdRamRomW3S1 (a : Access) : Statement (.rdRamRomW3S1 a) :=
  every _ a rfl

theorem rdRamRomW5S0 (a : Access) : Statement (.rdRamRomW5S0 a) :=
  every _ a rfl

theorem rdRamRomW5S1 (a : Access) : Statement (.rdRamRomW5S1 a) :=
  every _ a rfl

theorem rdRamRomReg1 (a : Access) : Statement (.rdRamRomReg1 a) :=
  every _ a rfl

theorem rdRamRomReg2 (a : Access) : Statement (.rdRamRomReg2 a) :=
  every _ a rfl

theorem rdRam1W0Ram1 (a : Access) : Statement (.rdRam1W0Ram1 a) :=
  every _ a rfl

theorem rdRam1W0Ram2 (a : Access) : Statement (.rdRam1W0Ram2 a) :=
  every _ a rfl

theorem rdRam1W0Ram3 (a : Access) : Statement (.rdRam1W0Ram3 a) :=
  every _ a rfl

theorem rdRam1W1 (a : Access) : Statement (.rdRam1W1 a) :=
  every _ a rfl

theorem rdRam1W2 (a : Access) : Statement (.rdRam1W2 a) :=
  every _ a rfl

theorem rdRam1W3 (a : Access) : Statement (.rdRam1W3 a) :=
  every _ a rfl

theorem rdRam1W5 (a : Access) : Statement (.rdRam1W5 a) :=
  every _ a rfl

theorem rdRam1Reg1 (a : Access) : Statement (.rdRam1Reg1 a) :=
  every _ a rfl

theorem rdRam1Reg2 (a : Access) : Statement (.rdRam1Reg2 a) :=
  every _ a rfl

theorem rdSuperRamW0Ram1 (a : Access) : Statement (.rdSuperRamW0Ram1 a) :=
  every _ a rfl

theorem rdSuperRamW0Ram2 (a : Access) : Statement (.rdSuperRamW0Ram2 a) :=
  every _ a rfl

theorem rdSuperRamW0Ram3 (a : Access) : Statement (.rdSuperRamW0Ram3 a) :=
  every _ a rfl

theorem rdSuperRamW1 (a : Access) : Statement (.rdSuperRamW1 a) :=
  every _ a rfl

theorem rdSuperRamW2 (a : Access) : Statement (.rdSuperRamW2 a) :=
  every _ a rfl

theorem rdSuperRamW3 (a : Access) : Statement (.rdSuperRamW3 a) :=
  every _ a rfl

theorem rdSuperRamW5 (a : Access) : Statement (.rdSuperRamW5 a) :=
  every _ a rfl

theorem rdSuperRamReg1 (a : Access) : Statement (.rdSuperRamReg1 a) :=
  every _ a rfl

theorem rdSuperRamReg2 (a : Access) : Statement (.rdSuperRamReg2 a) :=
  every _ a rfl

theorem rdRam2W0Ram1 (a : Access) : Statement (.rdRam2W0Ram1 a) :=
  every _ a rfl

theorem rdRam2W0Ram2 (a : Access) : Statement (.rdRam2W0Ram2 a) :=
  every _ a rfl

theorem rdRam2W0Ram3 (a : Access) : Statement (.rdRam2W0Ram3 a) :=
  every _ a rfl

theorem rdRam2W1S0 (a : Access) : Statement (.rdRam2W1S0 a) :=
  every _ a rfl

theorem rdRam2W1S1 (a : Access) : Statement (.rdRam2W1S1 a) :=
  every _ a rfl

theorem rdRam2W2S0 (a : Access) : Statement (.rdRam2W2S0 a) :=
  every _ a rfl

theorem rdRam2W2S1 (a : Access) : Statement (.rdRam2W2S1 a) :=
  every _ a rfl

theorem rdRam2W3S0 (a : Access) : Statement (.rdRam2W3S0 a) :=
  every _ a rfl

theorem rdRam2W3S1 (a : Access) : Statement (.rdRam2W3S1 a) :=
  every _ a rfl

theorem rdRam2W5S0 (a : Access) : Statement (.rdRam2W5S0 a) :=
  every _ a rfl

theorem rdRam2W5S1 (a : Access) : Statement (.rdRam2W5S1 a) :=
  every _ a rfl

theorem rdRam2Reg1 (a : Access) : Statement (.rdRam2Reg1 a) :=
  every _ a rfl

theorem rdRam2Reg2 (a : Access) : Statement (.rdRam2Reg2 a) :=
  every _ a rfl

theorem wrAnyIo2 (a : Access) : Statement (.wrAnyIo2 a) :=
  every _ a rfl

theorem wrUnusedAny (a : Access) : Statement (.wrUnusedAny a) :=
  every _ a rfl

theorem wrStartW0Ram1 (a : Access) : Statement (.wrStartW0Ram1 a) :=
  every _ a rfl

theorem wrStartW0Ram2 (a : Access) : Statement (.wrStartW0Ram2 a) :=
  every _ a rfl

theorem wrStartW0Ram3 (a : Access) : Statement (.wrStartW0Ram3 a) :=
  every _ a rfl

theorem wrStartW1 (a : Access) : Statement (.wrStartW1 a) :=
  every _ a rfl

theorem wrStartW2 (a : Access) : Statement (.wrStartW2 a) :=
  every _ a rfl

theorem wrStartW3 (a : Access) : Statement (.wrStartW3 a) :=
  every _ a rfl

theorem wrStartW5 (a : Access) : Statement (.wrStartW5 a) :=
  every _ a rfl

theorem wrStartReg1 (a : Access) : Statement (.wrStartReg1 a) :=
  every _ a rfl

theorem wrStartReg2 (a : Access) : Statement (.wrStartReg2 a) :=
  every _ a rfl

theorem wrFlashW0Ram1 (a : Access) : Statement (.wrFlashW0Ram1 a) :=
  every _ a rfl

theorem wrFlashW0Ram2 (a : Access) : Statement (.wrFlashW0Ram2 a) :=
  every _ a rfl

theorem wrFlashW0Ram3 (a : Access) : Statement (.wrFlashW0Ram3 a) :=
  every _ a rfl

theorem wrFlashW1 (a : Access) : Statement (.wrFlashW1 a) :=
  every _ a rfl

theorem wrFlashW2 (a : Access) : Statement (.wrFlashW2 a) :=
  every _ a rfl

theorem wrFlashW3 (a : Access) : Statement (.wrFlashW3 a) :=
  every _ a rfl

theorem wrFlashW5 (a : Access) : Statement (.wrFlashW5 a) :=
  every _ a rfl

theorem wrFlashReg1 (a : Access) : Statement (.wrFlashReg1 a) :=
  every _ a rfl

theorem wrFlashReg2 (a : Access) : Statement (.wrFlashReg2 a) :=
  every _ a rfl

theorem wrSuperRomW0Ram1 (a : Access) : Statement (.wrSuperRomW0Ram1 a) :=
  every _ a rfl

theorem wrSuperRomW0Ram2 (a : Access) : Statement (.wrSuperRomW0Ram2 a) :=
  every _ a rfl

theorem wrSuperRomW0Ram3 (a : Access) : Statement (.wrSuperRomW0Ram3 a) :=
  every _ a rfl

theorem wrSuperRomW1 (a : Access) : Statement (.wrSuperRomW1 a) :=
  every _ a rfl

theorem wrSuperRomW2 (a : Access) : Statement (.wrSuperRomW2 a) :=
  every _ a rfl

theorem wrSuperRomW3 (a : Access) : Statement (.wrSuperRomW3 a) :=
  every _ a rfl

theorem wrSuperRomW5 (a : Access) : Statement (.wrSuperRomW5 a) :=
  every _ a rfl

theorem wrSuperRomReg1 (a : Access) : Statement (.wrSuperRomReg1 a) :=
  every _ a rfl

theorem wrSuperRomReg2 (a : Access) : Statement (.wrSuperRomReg2 a) :=
  every _ a rfl

theorem wrRamRomW0Ram1 (a : Access) : Statement (.wrRamRomW0Ram1 a) :=
  every _ a rfl

theorem wrRamRomW0Ram2 (a : Access) : Statement (.wrRamRomW0Ram2 a) :=
  every _ a rfl

theorem wrRamRomW0Ram3 (a : Access) : Statement (.wrRamRomW0Ram3 a) :=
  every _ a rfl

theorem wrRamRomW1S0 (a : Access) : Statement (.wrRamRomW1S0 a) :=
  every _ a rfl

theorem wrRamRomW1S1 (a : Access) : Statement (.wrRamRomW1S1 a) :=
  every _ a rfl

theorem wrRamRomW2S0 (a : Access) : Statement (.wrRamRomW2S0 a) :=
  every _ a rfl

theorem wrRamRomW2S1 (a : Access) : Statement (.wrRamRomW2S1 a) :=
  every _ a rfl

theorem wrRamRomW3S0 (a : Access) : Statement (.wrRamRomW3S0 a) :=
  every _ a rfl

theorem wrRamRomW3S1 (a : Access) : Statement (.wrRamRomW3S1 a) :=
  every _ a rfl

theorem wrRamRomW5S0 (a : Access) : Statement (.wrRamRomW5S0 a) :=
  every _ a rfl

theorem wrRamRomW5S1 (a : Access) : Statement (.wrRamRomW5S1 a) :=
  every _ a rfl

theorem wrRamRomReg1 (a : Access) : Statement (.wrRamRomReg1 a) :=
  every _ a rfl

theorem wrRamRomReg2 (a : Access) : Statement (.wrRamRomReg2 a) :=
  every _ a rfl

theorem wrRam1W0Ram1 (a : Access) : Statement (.wrRam1W0Ram1 a) :=
  every _ a rfl

theorem wrRam1W0Ram2 (a : Access) : Statement (.wrRam1W0Ram2 a) :=
  every _ a rfl

theorem wrRam1W0Ram3 (a : Access) : Statement (.wrRam1W0Ram3 a) :=
  every _ a rfl

theorem wrRam1W1 (a : Access) : Statement (.wrRam1W1 a) :=
  every _ a rfl

theorem wrRam1W2 (a : Access) : Statement (.wrRam1W2 a) :=
  every _ a rfl

theorem wrRam1W3 (a : Access) : Statement (.wrRam1W3 a) :=
  every _ a rfl

theorem wrRam1W5 (a : Access) : Statement (.wrRam1W5 a) :=
  every _ a rfl

theorem wrRam1Reg1 (a : Access) : Statement (.wrRam1Reg1 a) :=
  every _ a rfl

theorem wrRam1Reg2 (a : Access) : Statement (.wrRam1Reg2 a) :=
  every _ a rfl

theorem wrSuperRamW0Ram1 (a : Access) : Statement (.wrSuperRamW0Ram1 a) :=
  every _ a rfl

theorem wrSuperRamW0Ram2 (a : Access) : Statement (.wrSuperRamW0Ram2 a) :=
  every _ a rfl

theorem wrSuperRamW0Ram3 (a : Access) : Statement (.wrSuperRamW0Ram3 a) :=
  every _ a rfl

theorem wrSuperRamW1 (a : Access) : Statement (.wrSuperRamW1 a) :=
  every _ a rfl

theorem wrSuperRamW2 (a : Access) : Statement (.wrSuperRamW2 a) :=
  every _ a rfl

theorem wrSuperRamW3 (a : Access) : Statement (.wrSuperRamW3 a) :=
  every _ a rfl

theorem wrSuperRamW5 (a : Access) : Statement (.wrSuperRamW5 a) :=
  every _ a rfl

theorem wrSuperRamReg1 (a : Access) : Statement (.wrSuperRamReg1 a) :=
  every _ a rfl

theorem wrSuperRamReg2 (a : Access) : Statement (.wrSuperRamReg2 a) :=
  every _ a rfl

theorem wrRam2W0Ram1 (a : Access) : Statement (.wrRam2W0Ram1 a) :=
  every _ a rfl

theorem wrRam2W0Ram2 (a : Access) : Statement (.wrRam2W0Ram2 a) :=
  every _ a rfl

theorem wrRam2W0Ram3 (a : Access) : Statement (.wrRam2W0Ram3 a) :=
  every _ a rfl

theorem wrRam2W1S0 (a : Access) : Statement (.wrRam2W1S0 a) :=
  every _ a rfl

theorem wrRam2W1S1 (a : Access) : Statement (.wrRam2W1S1 a) :=
  every _ a rfl

theorem wrRam2W2S0 (a : Access) : Statement (.wrRam2W2S0 a) :=
  every _ a rfl

theorem wrRam2W2S1 (a : Access) : Statement (.wrRam2W2S1 a) :=
  every _ a rfl

theorem wrRam2W3S0 (a : Access) : Statement (.wrRam2W3S0 a) :=
  every _ a rfl

theorem wrRam2W3S1 (a : Access) : Statement (.wrRam2W3S1 a) :=
  every _ a rfl

theorem wrRam2W5S0 (a : Access) : Statement (.wrRam2W5S0 a) :=
  every _ a rfl

theorem wrRam2W5S1 (a : Access) : Statement (.wrRam2W5S1 a) :=
  every _ a rfl

theorem wrRam2Reg1 (a : Access) : Statement (.wrRam2Reg1 a) :=
  every _ a rfl

theorem wrRam2Reg2 (a : Access) : Statement (.wrRam2Reg2 a) :=
  every _ a rfl

end Sys2Proof.Laws.EncodedKeyFiresRow
end

