-- ==== Sys2Proof/Laws/Slots.lean ====
section
/-! SUPPORT. What the step's loop does at each slot: the statement of the READ or WRITE procedure that
the slot's rows stand for (30_encoding.md R57; 42_mode_router_read.md R90; 43_mode_router_write.md R120). -/

namespace Sys2Proof.Machine

/-! ### A row whose conditions are met -/

theorem readWindow_on {s : State} {md : Mode} {w : Window} {st : Store} {bank : BitVec 7} {a : Access}
    (h : s.mode = md) (hs : selectsWindow a w = true) (hv : s.vis (.win w) = true) :
    s.readWindow md w st bank a = s.driveFrom st (s.addr bank (blockOf w) a) :=
  if_pos ⟨h, hs, hv⟩

theorem readWindowSel_on {s : State} {md : Mode} {w : Window} {bit : Bool} {st : Store}
    {bank : BitVec 7} {a : Access} (h : s.mode = md) (hb : s.sel w = bit)
    (hs : selectsWindow a w = true) (hv : s.vis (.win w) = true) :
    s.readWindowSel md w bit st bank a = s.driveFrom st (s.addr bank (blockOf w) a) :=
  (if_pos hb).trans (readWindow_on h hs hv)

theorem writeWindow_on {s : State} {md : Mode} {w : Window} {st : Store} {bank : BitVec 7} {a : Access}
    (h : s.mode = md) (hs : selectsWindow a w = true) (hv : s.vis (.win w) = true) :
    s.writeWindow md w st bank a = s.storeTo st (s.addr bank (blockOf w) a) a.data :=
  if_pos ⟨h, hs, hv⟩

theorem writeWindowSel_on {s : State} {md : Mode} {w : Window} {bit : Bool} {st : Store}
    {bank : BitVec 7} {a : Access} (h : s.mode = md) (hb : s.sel w = bit)
    (hs : selectsWindow a w = true) (hv : s.vis (.win w) = true) :
    s.writeWindowSel md w bit st bank a = s.storeTo st (s.addr bank (blockOf w) a) a.data :=
  (if_pos hb).trans (writeWindow_on h hs hv)

/-- The row of a visible window that a READ selects drives what R95 says. -/
theorem exec_rowOfReadWindow {s : State} {a : Access} {w : Window} (h1 : s.mode ≠ .start)
    (h2 : s.mode ≠ .unused) (hs : selectsWindow a w = true) (hv : s.vis (.win w) = true) :
    ∃ i, rowOfReadWindow a (s.sel w) s.mode w = some i ∧
      exec i s = .next (s.stmtReadWindow w a) := by
  rw [State.stmtReadWindow, hs, hv]
  rcases h : s.mode with _ | _ | _ | _ | _ | _ | _ | _
  case start => exact absurd h h1
  case unused => exact absurd h h2
  all_goals simp only [State.routeRead, h]
  case ramRom =>
    rcases hb : s.sel w with _ | _ <;> cases w <;>
      exact ⟨_, rfl, congrArg _ (readWindowSel_on h hb hs hv)⟩
  case ram2 =>
    rcases hb : s.sel w with _ | _ <;> cases w <;>
      exact ⟨_, rfl, congrArg _ (readWindowSel_on h hb hs hv)⟩
  all_goals cases w <;> exact ⟨_, rfl, congrArg _ (readWindow_on h hs hv)⟩

/-- The row of a visible window that a WRITE selects stores what R125 says. -/
theorem exec_rowOfWriteWindow {s : State} {a : Access} {w : Window} (h1 : s.mode ≠ .start)
    (h2 : s.mode ≠ .unused) (hs : selectsWindow a w = true) (hv : s.vis (.win w) = true) :
    ∃ i, rowOfWriteWindow a (s.sel w) s.mode w = some i ∧
      exec i s = .next (s.stmtWriteWindow w a) := by
  rw [State.stmtWriteWindow, hs, hv]
  rcases h : s.mode with _ | _ | _ | _ | _ | _ | _ | _
  case start => exact absurd h h1
  case unused => exact absurd h h2
  all_goals
    rcases ht : s.cfg.romModeWriteTarget with _ | _ <;>
      simp only [State.routeWrite, State.routeRead, h, ht]
  case ramRom.ram =>
    rcases hb : s.sel w with _ | _ <;> cases w <;>
      refine ⟨_, rfl, congrArg _ ((writeWindowSel_on h hb hs hv).trans ?_)⟩ <;>
      simp [ht, ramRomSelectedBank]
  case ramRom.rom =>
    rcases hb : s.sel w with _ | _ <;> cases w <;>
      refine ⟨_, rfl, congrArg _ ((writeWindowSel_on h hb hs hv).trans ?_)⟩ <;>
      simp [ht, ramRomSelectedBank]
  case ram2.ram =>
    rcases hb : s.sel w with _ | _ <;> cases w <;>
      exact ⟨_, rfl, congrArg _ (writeWindowSel_on h hb hs hv)⟩
  case ram2.rom =>
    rcases hb : s.sel w with _ | _ <;> cases w <;>
      exact ⟨_, rfl, congrArg _ (writeWindowSel_on h hb hs hv)⟩
  all_goals
    cases w <;> refine ⟨_, rfl, congrArg _ ((writeWindow_on h hs hv).trans ?_)⟩ <;> simp [ht]

/-- A register access that is granted reads the register of its offset (R83). -/
theorem exec_rowOfReadReg {s : State} {a : Access} (hg : s.granted a = true) :
    ∃ i, rowOfReadReg a (regNo a) s.mode = some i ∧ exec i s = .next (s.stmtReadReg a) := by
  rw [State.stmtReadReg, if_pos hg]
  rcases h : s.mode with _ | _ | _ | _ | _ | _ | _ | _
  case unused =>
    have h' : modeOf s.cfg s.m = .unused := h
    simp [State.granted, regGate, h'] at hg
  all_goals
    rcases hr : regNo a with _ | _ <;> exact ⟨_, rfl, congrArg _ (if_pos ⟨h, hr, hg⟩)⟩

/-- A register access that is granted writes the register of its offset (R84). -/
theorem exec_rowOfWriteReg {s : State} {a : Access} (hg : s.granted a = true) :
    ∃ i, rowOfWriteReg a (regNo a) s.mode = some i ∧ exec i s = .next (s.stmtWriteReg a) := by
  rw [State.stmtWriteReg, if_pos hg]
  rcases h : s.mode with _ | _ | _ | _ | _ | _ | _ | _
  case unused =>
    have h' : modeOf s.cfg s.m = .unused := h
    simp [State.granted, regGate, h'] at hg
  all_goals
    rcases hr : regNo a with _ | _ <;> exact ⟨_, rfl, congrArg _ (if_pos ⟨h, hr, hg⟩)⟩

/-! ### No window statement changes the mode -/

@[simp] theorem stmtReadW0_mode (s : State) (a : Access) : (s.stmtReadW0 a).mode = s.mode := by
  unfold State.stmtReadW0; split <;> rfl

@[simp] theorem stmtReadWindow_mode (s : State) (w : Window) (a : Access) :
    (s.stmtReadWindow w a).mode = s.mode := by
  unfold State.stmtReadWindow
  split
  · split
    · rename_i st _ _; cases st <;> rfl
    · rfl
  · rfl

@[simp] theorem stmtWriteW0_mode (s : State) (a : Access) : (s.stmtWriteW0 a).mode = s.mode := by
  unfold State.stmtWriteW0; split <;> rfl

@[simp] theorem stmtWriteWindow_mode (s : State) (w : Window) (a : Access) :
    (s.stmtWriteWindow w a).mode = s.mode := by
  unfold State.stmtWriteWindow
  split
  · split
    · rename_i st _ _; cases st <;> rfl
    · rfl
  · rfl

/-! ### The slots of a READ and of a WRITE -/

theorem decodeSlot_read {t : TW} {a : Access} (ht : twTransaction t = .read a) (s : State)
    (slot : Slot) :
    decodeSlot s.cfg slot (keyView (s.key t)) = decodeRead s.cfg slot a s.m s.v s.latch := by
  rw [keyView_key, ht]; rfl

theorem decodeSlot_write {t : TW} {a : Access} (ht : twTransaction t = .write a) (s : State)
    (slot : Slot) :
    decodeSlot s.cfg slot (keyView (s.key t)) = decodeWrite s.cfg slot a s.m s.v s.latch := by
  rw [keyView_key, ht]; rfl

/-- The slots before the windows' have no effect on a READ or a WRITE. -/
theorem runSlots_lead {t : TW} (ht : t.getLsbD 34 = false) (slots : List Slot) (s : State) :
    runSlots t (.rst :: .io2 :: .unused :: slots) s = runSlots t slots s := by
  have step1 : ∀ (slot : Slot) (slots : List Slot),
      slot = .rst ∨ slot = .io2 ∨ slot = .unused →
      runSlots t (slot :: slots) s = runSlots t slots s := by
    intro slot slots hslot
    by_cases hw : t.getLsbD 33 = true
    · have e : twTransaction t = .write (twAccess t) := by
        rw [twTransaction, ht, if_neg Bool.false_ne_true, if_pos hw]
      cases hd : decodeSlot s.cfg slot (keyView (s.key t)) with
      | none => exact runSlots_none hd
      | some i =>
        refine runSlots_some hd ?_
        rw [decodeSlot_write e] at hd
        rcases hslot with rfl | rfl | rfl
        · cases hd
        · simp only [decodeWrite] at hd; split at hd <;> cases hd; rfl
        · simp only [decodeWrite] at hd; split at hd <;> cases hd; rfl
    · have e : twTransaction t = .read (twAccess t) := by
        rw [twTransaction, ht, if_neg Bool.false_ne_true, if_neg hw]
      cases hd : decodeSlot s.cfg slot (keyView (s.key t)) with
      | none => exact runSlots_none hd
      | some i =>
        refine runSlots_some hd ?_
        rw [decodeSlot_read e] at hd
        rcases hslot with rfl | rfl | rfl
        · cases hd
        · simp only [decodeRead] at hd; split at hd <;> cases hd; rfl
        · simp only [decodeRead] at hd; split at hd <;> cases hd; rfl
  rw [step1 _ _ (.inl rfl), step1 _ _ (.inr (.inl rfl)), step1 _ _ (.inr (.inr rfl))]

/-- The slot of window 1, 2, 3 or 5. -/
def slotOf : Window → Slot
  | .w1 => .blk1
  | .w2 => .blk2
  | .w3 => .blk3
  | .w5 => .blk5

theorem decodeRead_window (c : Config) (w : Window) (a : Access) (m v : Byte) (latch : Bool) :
    decodeRead c (slotOf w) a m v latch =
      if selectsWindow a w && windowOpen c m v w then
        rowOfReadWindow a (selectBit c m w) (modeOf c m) w else none := by
  cases w <;> rfl

theorem decodeWrite_window (c : Config) (w : Window) (a : Access) (m v : Byte) (latch : Bool) :
    decodeWrite c (slotOf w) a m v latch =
      if selectsWindow a w && windowOpen c m v w then
        rowOfWriteWindow a (selectBit c m w) (modeOf c m) w else none := by
  cases w <;> rfl

theorem windowOpen_eq_vis {s : State} (h1 : s.mode ≠ .start) (h2 : s.mode ≠ .unused) (w : Window) :
    windowOpen s.cfg s.m s.v w = s.vis (.win w) := by
  have hm : modeOf s.cfg s.m = s.mode := rfl
  simp only [windowOpen, hm]
  rfl

theorem window0Open_eq_vis {s : State} (h1 : s.mode ≠ .start) (h2 : s.mode ≠ .unused) :
    window0Open s.cfg s.m s.v = s.vis .w0 := by
  have hm : modeOf s.cfg s.m = s.mode := rfl
  simp only [window0Open, hm]
  rfl

/-- The slot of a window, in a READ: the statement of R95. -/
theorem runSlots_readWindow {t : TW} {a : Access} (ht : twTransaction t = .read a) {s : State}
    (h1 : s.mode ≠ .start) (h2 : s.mode ≠ .unused) (w : Window) (slots : List Slot) :
    runSlots t (slotOf w :: slots) s = runSlots t slots (s.stmtReadWindow w a) := by
  have hd : decodeSlot s.cfg (slotOf w) (keyView (s.key t)) =
      if (selectsWindow a w && s.vis (.win w)) = true then rowOfReadWindow a (s.sel w) s.mode w
      else none := by
    rw [decodeSlot_read ht, decodeRead_window, windowOpen_eq_vis h1 h2]; rfl
  by_cases hc : (selectsWindow a w && s.vis (.win w)) = true
  · rw [if_pos hc] at hd
    rw [Bool.and_eq_true] at hc
    obtain ⟨i, hi, hx⟩ := exec_rowOfReadWindow h1 h2 hc.1 hc.2
    exact runSlots_some (hd.trans hi) hx
  · rw [if_neg hc] at hd
    rw [runSlots_none hd, State.stmtReadWindow, if_neg hc]

/-- The slot of a window, in a WRITE: the statement of R125. -/
theorem runSlots_writeWindow {t : TW} {a : Access} (ht : twTransaction t = .write a) {s : State}
    (h1 : s.mode ≠ .start) (h2 : s.mode ≠ .unused) (w : Window) (slots : List Slot) :
    runSlots t (slotOf w :: slots) s = runSlots t slots (s.stmtWriteWindow w a) := by
  have hd : decodeSlot s.cfg (slotOf w) (keyView (s.key t)) =
      if (selectsWindow a w && s.vis (.win w)) = true then rowOfWriteWindow a (s.sel w) s.mode w
      else none := by
    rw [decodeSlot_write ht, decodeWrite_window, windowOpen_eq_vis h1 h2]; rfl
  by_cases hc : (selectsWindow a w && s.vis (.win w)) = true
  · rw [if_pos hc] at hd
    rw [Bool.and_eq_true] at hc
    obtain ⟨i, hi, hx⟩ := exec_rowOfWriteWindow h1 h2 hc.1 hc.2
    exact runSlots_some (hd.trans hi) hx
  · rw [if_neg hc] at hd
    rw [runSlots_none hd, State.stmtWriteWindow, if_neg hc]

/-- The register slot, in a READ: the statement of R83. -/
theorem runSlots_readReg {t : TW} {a : Access} (ht : twTransaction t = .read a) (s : State)
    (slots : List Slot) :
    runSlots t (.reg :: slots) s = runSlots t slots (s.stmtReadReg a) := by
  have hd : decodeSlot s.cfg .reg (keyView (s.key t)) =
      if s.granted a = true then rowOfReadReg a (regNo a) s.mode else none := by
    rw [decodeSlot_read ht]; rfl
  by_cases hc : s.granted a = true
  · rw [if_pos hc] at hd
    obtain ⟨i, hi, hx⟩ := exec_rowOfReadReg hc
    exact runSlots_some (hd.trans hi) hx
  · rw [if_neg hc] at hd
    rw [runSlots_none hd, State.stmtReadReg, if_neg hc]

/-- The register slot, in a WRITE: the statement of R84. -/
theorem runSlots_writeReg {t : TW} {a : Access} (ht : twTransaction t = .write a) (s : State)
    (slots : List Slot) :
    runSlots t (.reg :: slots) s = runSlots t slots (s.stmtWriteReg a) := by
  have hd : decodeSlot s.cfg .reg (keyView (s.key t)) =
      if s.granted a = true then rowOfWriteReg a (regNo a) s.mode else none := by
    rw [decodeSlot_write ht]; rfl
  by_cases hc : s.granted a = true
  · rw [if_pos hc] at hd
    obtain ⟨i, hi, hx⟩ := exec_rowOfWriteReg hc
    exact runSlots_some (hd.trans hi) hx
  · rw [if_neg hc] at hd
    rw [runSlots_none hd, State.stmtWriteReg, if_neg hc]

/-! ### Window 0: three slots with one action -/

theorem runSlots_readRam {t : TW} {a : Access} (ht : twTransaction t = .read a) {s : State}
    (h1 : s.mode ≠ .start) (h2 : s.mode ≠ .unused) {slot : Slot} {asserted : Bool}
    (hslot : slot = .ram1 ∧ asserted = a.sel.ram1 ∨ slot = .ram2 ∧ asserted = a.sel.ram2 ∨
      slot = .ram3 ∧ asserted = a.sel.ram3) (slots : List Slot) :
    runSlots t (slot :: slots) s = runSlots t slots
      (if asserted && s.vis .w0 then s.driveFrom .ram (s.addr 0 0 a) else s) := by
  by_cases hc : (asserted && s.vis .w0) = true
  · rw [if_pos hc]
    rw [Bool.and_eq_true] at hc
    have key : ∀ i, decodeSlot s.cfg slot (keyView (s.key t)) = some i →
        exec i s = .next (s.driveFrom .ram (s.addr 0 0 a)) →
        runSlots t (slot :: slots) s = runSlots t slots (s.driveFrom .ram (s.addr 0 0 a)) :=
      fun i hi hx => runSlots_some hi hx
    have hm : modeOf s.cfg s.m = s.mode := rfl
    have on : ∀ md, s.mode = md →
        s.readW0 md asserted a = s.driveFrom .ram (s.addr 0 0 a) :=
      fun md h => if_pos ⟨h, hc.1, hc.2⟩
    rcases hslot with ⟨rfl, ha⟩ | ⟨rfl, ha⟩ | ⟨rfl, ha⟩ <;> subst ha <;>
      rw [decodeSlot_read ht] at key <;>
      simp only [decodeRead, window0Open_eq_vis h1 h2, hc.1, hc.2, hm, Bool.and_true, if_true]
        at key <;>
      rcases h : s.mode with _ | _ | _ | _ | _ | _ | _ | _ <;>
      first
        | exact absurd h h1
        | exact absurd h h2
        | (rw [h] at key; exact key _ rfl (congrArg _ (on _ h)))
  · rw [if_neg hc]
    refine runSlots_none ?_
    rw [decodeSlot_read ht]
    rcases hslot with ⟨rfl, ha⟩ | ⟨rfl, ha⟩ | ⟨rfl, ha⟩ <;> subst ha <;>
      simp only [decodeRead, window0Open_eq_vis h1 h2] <;> exact if_neg hc

theorem runSlots_writeRam {t : TW} {a : Access} (ht : twTransaction t = .write a) {s : State}
    (h1 : s.mode ≠ .start) (h2 : s.mode ≠ .unused) {slot : Slot} {asserted : Bool}
    (hslot : slot = .ram1 ∧ asserted = a.sel.ram1 ∨ slot = .ram2 ∧ asserted = a.sel.ram2 ∨
      slot = .ram3 ∧ asserted = a.sel.ram3) (slots : List Slot) :
    runSlots t (slot :: slots) s = runSlots t slots
      (if asserted && s.vis .w0 then s.storeTo .ram (s.addr 0 0 a) a.data else s) := by
  by_cases hc : (asserted && s.vis .w0) = true
  · rw [if_pos hc]
    rw [Bool.and_eq_true] at hc
    have key : ∀ i, decodeSlot s.cfg slot (keyView (s.key t)) = some i →
        exec i s = .next (s.storeTo .ram (s.addr 0 0 a) a.data) →
        runSlots t (slot :: slots) s = runSlots t slots (s.storeTo .ram (s.addr 0 0 a) a.data) :=
      fun i hi hx => runSlots_some hi hx
    have hm : modeOf s.cfg s.m = s.mode := rfl
    have on : ∀ md, s.mode = md →
        s.writeW0 md asserted a = s.storeTo .ram (s.addr 0 0 a) a.data :=
      fun md h => if_pos ⟨h, hc.1, hc.2⟩
    rcases hslot with ⟨rfl, ha⟩ | ⟨rfl, ha⟩ | ⟨rfl, ha⟩ <;> subst ha <;>
      rw [decodeSlot_write ht] at key <;>
      simp only [decodeWrite, window0Open_eq_vis h1 h2, hc.1, hc.2, hm, Bool.and_true, if_true]
        at key <;>
      rcases h : s.mode with _ | _ | _ | _ | _ | _ | _ | _ <;>
      first
        | exact absurd h h1
        | exact absurd h h2
        | (rw [h] at key; exact key _ rfl (congrArg _ (on _ h)))
  · rw [if_neg hc]
    refine runSlots_none ?_
    rw [decodeSlot_write ht]
    rcases hslot with ⟨rfl, ha⟩ | ⟨rfl, ha⟩ | ⟨rfl, ha⟩ <;> subst ha <;>
      simp only [decodeWrite, window0Open_eq_vis h1 h2] <;> exact if_neg hc

/-- The three slots of window 0, in a READ: the statement of R94. -/
theorem runSlots_readW0 {t : TW} {a : Access} (ht : twTransaction t = .read a) {s : State}
    (h1 : s.mode ≠ .start) (h2 : s.mode ≠ .unused) (slots : List Slot) :
    runSlots t (.ram1 :: .ram2 :: .ram3 :: slots) s = runSlots t slots (s.stmtReadW0 a) := by
  have on : ∀ (b : Bool) (u : State), u = s ∨ u = s.driveFrom .ram (s.addr 0 0 a) →
      u.mode = s.mode ∧ (if b && u.vis .w0 then u.driveFrom .ram (u.addr 0 0 a) else u) =
        if b && s.vis .w0 then s.driveFrom .ram (s.addr 0 0 a) else u := by
    rintro b u (rfl | rfl) <;> exact ⟨rfl, rfl⟩
  rw [runSlots_readRam ht h1 h2 (.inl ⟨rfl, rfl⟩)]
  generalize hu : (if a.sel.ram1 && s.vis .w0 then s.driveFrom .ram (s.addr 0 0 a) else s) = u
  have h : u = s ∨ u = s.driveFrom .ram (s.addr 0 0 a) := by
    subst hu; split <;> simp
  rw [runSlots_readRam ht ((on true u h).1 ▸ h1) ((on true u h).1 ▸ h2) (.inr (.inl ⟨rfl, rfl⟩)),
    (on a.sel.ram2 u h).2]
  generalize hw : (if a.sel.ram2 && s.vis .w0 then s.driveFrom .ram (s.addr 0 0 a) else u) = w
  have h' : w = s ∨ w = s.driveFrom .ram (s.addr 0 0 a) := by
    subst hw; split
    · exact .inr rfl
    · exact h
  rw [runSlots_readRam ht ((on true w h').1 ▸ h1) ((on true w h').1 ▸ h2) (.inr (.inr ⟨rfl, rfl⟩)),
    (on a.sel.ram3 w h').2]
  subst hw; subst hu
  rw [State.stmtReadW0, selectsW0]
  congr 1
  cases a.sel.ram1 <;> cases a.sel.ram2 <;> cases a.sel.ram3 <;> cases s.vis .w0 <;> rfl

/-- The three slots of window 0, in a WRITE: the statement of R124. -/
theorem runSlots_writeW0 {t : TW} {a : Access} (ht : twTransaction t = .write a) {s : State}
    (hwf : memWf s.ram = true) (h1 : s.mode ≠ .start) (h2 : s.mode ≠ .unused) (slots : List Slot) :
    runSlots t (.ram1 :: .ram2 :: .ram3 :: slots) s = runSlots t slots (s.stmtWriteW0 a) := by
  have on : ∀ (b : Bool) (u : State), u = s ∨ u = s.storeTo .ram (s.addr 0 0 a) a.data →
      u.mode = s.mode ∧ (if b && u.vis .w0 then u.storeTo .ram (u.addr 0 0 a) a.data else u) =
        if b && s.vis .w0 then s.storeTo .ram (s.addr 0 0 a) a.data else u := by
    rintro b u (rfl | rfl)
    · exact ⟨rfl, rfl⟩
    · refine ⟨rfl, ?_⟩
      have e : (s.storeTo .ram (s.addr 0 0 a) a.data).storeTo .ram
          ((s.storeTo .ram (s.addr 0 0 a) a.data).addr 0 0 a) a.data
          = s.storeTo .ram (s.addr 0 0 a) a.data := by
        have w := memWrite_memWrite hwf a.data (physAddr_lt_storeSize (s.addr 0 0 a))
        exact congrArg (fun r => ({ s with ram := r } : State)) w
      rw [e]; rfl
  rw [runSlots_writeRam ht h1 h2 (.inl ⟨rfl, rfl⟩)]
  generalize hu : (if a.sel.ram1 && s.vis .w0 then s.storeTo .ram (s.addr 0 0 a) a.data else s) = u
  have h : u = s ∨ u = s.storeTo .ram (s.addr 0 0 a) a.data := by
    subst hu; split <;> simp
  rw [runSlots_writeRam ht ((on true u h).1 ▸ h1) ((on true u h).1 ▸ h2) (.inr (.inl ⟨rfl, rfl⟩)),
    (on a.sel.ram2 u h).2]
  generalize hw : (if a.sel.ram2 && s.vis .w0 then s.storeTo .ram (s.addr 0 0 a) a.data else u) = w
  have h' : w = s ∨ w = s.storeTo .ram (s.addr 0 0 a) a.data := by
    subst hw; split
    · exact .inr rfl
    · exact h
  rw [runSlots_writeRam ht ((on true w h').1 ▸ h1) ((on true w h').1 ▸ h2) (.inr (.inr ⟨rfl, rfl⟩)),
    (on a.sel.ram3 w h').2]
  subst hw; subst hu
  rw [State.stmtWriteW0, selectsW0]
  congr 1
  cases a.sel.ram1 <;> cases a.sel.ram2 <;> cases a.sel.ram3 <;> cases s.vis .w0 <;> rfl

/-! ### Mode START and mode UNUSED -/

/-- The slots of windows 0 to 3 have no effect in START (R91). -/
theorem runSlots_readStart {t : TW} {a : Access} (ht : twTransaction t = .read a) {s : State}
    (h : s.mode = .start) (slots : List Slot) :
    runSlots t (.ram1 :: .ram2 :: .ram3 :: .blk1 :: .blk2 :: .blk3 :: slots) s =
      runSlots t slots s := by
  have hm : modeOf s.cfg s.m = .start := h
  have skip : ∀ (slot : Slot) (slots : List Slot),
      (∀ i, decodeRead s.cfg slot a s.m s.v s.latch = some i → exec i s = .next s) →
      runSlots t (slot :: slots) s = runSlots t slots s := by
    intro slot slots hx
    cases hd : decodeSlot s.cfg slot (keyView (s.key t)) with
    | none => exact runSlots_none hd
    | some i => exact runSlots_some hd (hx i ((decodeSlot_read ht s slot).symm.trans hd))
  rw [skip, skip, skip, skip, skip, skip] <;> intro i hi <;>
    simp only [decodeRead, hm, rowOfReadRam1, rowOfReadRam2, rowOfReadRam3, rowOfReadWindow] at hi <;>
    split at hi <;> cases hi <;> rfl

/-- The slots of windows 0 to 3 have no effect in START (R121). -/
theorem runSlots_writeStart {t : TW} {a : Access} (ht : twTransaction t = .write a) {s : State}
    (h : s.mode = .start) (slots : List Slot) :
    runSlots t (.ram1 :: .ram2 :: .ram3 :: .blk1 :: .blk2 :: .blk3 :: slots) s =
      runSlots t slots s := by
  have hm : modeOf s.cfg s.m = .start := h
  have skip : ∀ (slot : Slot) (slots : List Slot),
      (∀ i, decodeWrite s.cfg slot a s.m s.v s.latch = some i → exec i s = .next s) →
      runSlots t (slot :: slots) s = runSlots t slots s := by
    intro slot slots hx
    cases hd : decodeSlot s.cfg slot (keyView (s.key t)) with
    | none => exact runSlots_none hd
    | some i => exact runSlots_some hd (hx i ((decodeSlot_write ht s slot).symm.trans hd))
  rw [skip, skip, skip, skip, skip, skip] <;> intro i hi <;>
    simp only [decodeWrite, hm, rowOfWriteRam1, rowOfWriteRam2, rowOfWriteRam3, rowOfWriteWindow]
      at hi <;>
    split at hi <;> cases hi <;> rfl

/-- The window-5 slot in START, in a READ: the statement of R92. -/
theorem runSlots_readStartW5 {t : TW} {a : Access} (ht : twTransaction t = .read a) {s : State}
    (h : s.mode = .start) (slots : List Slot) :
    runSlots t (.blk5 :: slots) s = runSlots t slots (s.stmtReadStartW5 a) := by
  have hm : modeOf s.cfg s.m = .start := h
  have hd : decodeSlot s.cfg .blk5 (keyView (s.key t)) =
      if (a.sel.blk5 && startW5Open s.cfg s.v) = true then some (.rdStartW5 a) else none := by
    rw [decodeSlot_read ht]; simp only [decodeRead, windowOpen, hm, rowOfReadWindow, if_true]
  by_cases hc : (a.sel.blk5 && startW5Open s.cfg s.v) = true
  · rw [if_pos hc] at hd
    rw [State.stmtReadStartW5, if_pos hc]
    rw [Bool.and_eq_true] at hc
    exact runSlots_some hd (congrArg _ (if_pos ⟨h, hc.1, hc.2⟩))
  · rw [if_neg hc] at hd
    rw [runSlots_none hd, State.stmtReadStartW5, if_neg hc]

/-- The window-5 slot in START, in a WRITE: the statement of R122. -/
theorem runSlots_writeStartW5 {t : TW} {a : Access} (ht : twTransaction t = .write a) {s : State}
    (h : s.mode = .start) (slots : List Slot) :
    runSlots t (.blk5 :: slots) s = runSlots t slots (s.stmtWriteStartW5 a) := by
  have hm : modeOf s.cfg s.m = .start := h
  have hd : decodeSlot s.cfg .blk5 (keyView (s.key t)) =
      if (a.sel.blk5 && startW5Open s.cfg s.v) = true then some (.wrStartW5 a) else none := by
    rw [decodeSlot_write ht]; simp only [decodeWrite, windowOpen, hm, rowOfWriteWindow, if_true]
  by_cases hc : (a.sel.blk5 && startW5Open s.cfg s.v) = true
  · rw [if_pos hc] at hd
    rw [State.stmtWriteStartW5, if_pos hc]
    rw [Bool.and_eq_true] at hc
    exact runSlots_some hd (congrArg _ (if_pos ⟨h, hc.1, hc.2⟩))
  · rw [if_neg hc] at hd
    rw [runSlots_none hd, State.stmtWriteStartW5, if_neg hc]

/-- In UNUSED no slot has an effect on a READ or a WRITE (R108, R138). -/
theorem runSlots_unused {t : TW} (ht : t.getLsbD 34 = false) {s : State} (h : s.mode = .unused) :
    runSlots t Slot.inOrder s = .next s := by
  have hm : modeOf s.cfg s.m = .unused := h
  have hg : regGate s.cfg s.m s.v s.latch = false := by simp [regGate, hm]
  have skip : ∀ (slot : Slot) (slots : List Slot),
      decodeSlot s.cfg slot (keyView (s.key t)) = none →
      runSlots t (slot :: slots) s = runSlots t slots s := fun _ _ => runSlots_none
  rw [Slot.inOrder, runSlots_lead ht]
  rw [skip, skip, skip, skip, skip, skip, skip, skip, runSlots_nil] <;>
    rw [keyView_key] <;> simp only [decodeSlot] <;> split <;>
    simp_all [decodeRead, decodeWrite, window0Open, windowOpen, twTransaction]

end Sys2Proof.Machine
end

