-- ==== Sys2Proof/Tests/Slice0.lean ====
section
/-! SUPPORT. Tests. Expected values come from spec/: the tables of 95_test_vectors.md, the worked
examples of the rules, and decode keys written out bit by bit from 30_encoding.md R54 and R57. The
witnesses at the end meet the hypotheses of the statements. -/

namespace Sys2Proof.Tests

open Sys2Proof Sys2Proof.Machine

/-! ### Helpers -/

def acc (off : BusOffset) (signals : List Signal) (data : Byte) : Access :=
  { off := off, sel := assert signals, data := data }

/-- A state with these registers and stores, the ROM being ByteArrayRom (10_state.md R22). -/
def st (m v : Byte) (latch : Bool) (ram rom : Memory) : State :=
  { State.reset with m := m, v := v, latch := latch, ram := ram, rom := .byteArray rom }

/-- One step that answers one command. -/
def answer (s : State) (cmd : Command) : Option State :=
  match step { s with pending := [assemble cmd] } with
  | .next t => some t
  | .fault _ => none
  | .refused _ => none

/-- One step that answers one command does this and nothing else to the block. -/
def gives (s : State) (cmd : Command) (t : State) : Bool :=
  answer s cmd == some t

/-- The registers and the result after one command. -/
def regsAfter (s : State) (cmd : Command) : Option (Byte × Byte × Bool × Option ReadResult) :=
  (answer s cmd).map fun t => (t.m, t.v, t.latch, t.out)

def driven (b : Byte) : Option ReadResult := some { d := b, drv := true }

def undriven : Option ReadResult := some { d := 0xFF, drv := false }

/-- Where an access resolves. -/
inductive Place
  | nowhere
  | ram (a : Nat)
  | rom (a : Nat)

/-- A READ with `d_in = 0xFF` resolves there: the byte placed there, and there alone, is driven. -/
def reads (m v : Byte) (latch after : Bool) (off : BusOffset) : Signal × Place → Bool
  | (sig, .nowhere) =>
    regsAfter (st m v latch [] []) (.rd off [sig] none) == some (m, v, after, undriven)
  | (sig, .ram x) =>
    regsAfter (st m v latch [(x, 0x5A)] []) (.rd off [sig] none) == some (m, v, after, driven 0x5A)
  | (sig, .rom x) =>
    regsAfter (st m v latch [] [(x, 0xA7)]) (.rd off [sig] none) == some (m, v, after, driven 0xA7)

/-- A WRITE of 0x3C resolves there: that byte, and that alone, is written. -/
def writes (m v : Byte) (latch after : Bool) (off : BusOffset) : Signal × Place → Bool
  | (sig, .nowhere) =>
    gives (st m v latch [] []) (.wr off [sig] 0x3C) (st m v after [] [])
  | (sig, .ram x) =>
    gives (st m v latch [] []) (.wr off [sig] 0x3C) (st m v after [(x, 0x3C)] [])
  | (sig, .rom x) =>
    gives (st m v latch [] []) (.wr off [sig] 0x3C) (st m v after [] [(x, 0x3C)])

/-- A decode key is read as this instruction. -/
def decodes (p : Nat × Instr) : Bool :=
  decodeTableWord 56 p.1 == some p.2

/-! ### 95_test_vectors.md section 2.3, Table A: every mode against every window -/

theorem test_reads_a_start :
    [(.ram2, .nowhere), (.blk1, .nowhere), (.blk2, .nowhere), (.blk3, .nowhere)].all
      (reads 0x15 0x00 false false 0x0ABC) = true := by decide

theorem test_reads_a_start_w5 :
    reads 0x15 0x00 false true 0x0ABC (.blk5, .rom 0x06ABC) = true := by decide

theorem test_writes_a_start :
    [(.ram2, .nowhere), (.blk1, .nowhere), (.blk2, .nowhere), (.blk3, .nowhere)].all
      (writes 0x15 0x00 true true 0x0ABC) = true := by decide

theorem test_writes_a_start_w5 :
    writes 0x15 0x00 true false 0x0ABC (.blk5, .ram 0x0EABC) = true := by decide

theorem test_reads_a_flash :
    [(.ram2, .ram 0x00ABC), (.blk1, .rom 0x28ABC), (.blk2, .rom 0x2AABC), (.blk3, .rom 0x2CABC), (.blk5, .rom 0x2EABC)].all
      (reads 0x35 0x00 false false 0x0ABC) = true := by decide

theorem test_writes_a_flash :
    [(.ram2, .ram 0x00ABC), (.blk1, .rom 0x28ABC), (.blk2, .rom 0x2AABC), (.blk3, .rom 0x2CABC), (.blk5, .rom 0x2EABC)].all
      (writes 0x35 0x00 true true 0x0ABC) = true := by decide

theorem test_reads_a_superRom :
    [(.ram2, .ram 0x00ABC), (.blk1, .rom 0x28ABC), (.blk2, .rom 0x2AABC), (.blk3, .rom 0x2CABC), (.blk5, .rom 0x2EABC)].all
      (reads 0x55 0x00 false false 0x0ABC) = true := by decide

theorem test_writes_a_superRom :
    [(.ram2, .ram 0x00ABC), (.blk1, .rom 0x28ABC), (.blk2, .rom 0x2AABC), (.blk3, .rom 0x2CABC), (.blk5, .rom 0x2EABC)].all
      (writes 0x55 0x00 true true 0x0ABC) = true := by decide

theorem test_reads_a_ramRom :
    [(.ram2, .ram 0x00ABC), (.blk1, .ram 0x08ABC), (.blk2, .rom 0x02ABC), (.blk3, .ram 0x0CABC), (.blk5, .rom 0x06ABC)].all
      (reads 0x75 0x00 false false 0x0ABC) = true := by decide

theorem test_writes_a_ramRom :
    [(.ram2, .ram 0x00ABC), (.blk1, .ram 0x08ABC), (.blk2, .rom 0x02ABC), (.blk3, .ram 0x0CABC), (.blk5, .rom 0x06ABC)].all
      (writes 0x75 0x00 true true 0x0ABC) = true := by decide

theorem test_reads_a_ram1 :
    [(.ram2, .ram 0x00ABC), (.blk1, .ram 0x08ABC), (.blk2, .ram 0x0AABC), (.blk3, .ram 0x0CABC), (.blk5, .ram 0x0EABC)].all
      (reads 0x95 0x00 false false 0x0ABC) = true := by decide

theorem test_writes_a_ram1 :
    [(.ram2, .ram 0x00ABC), (.blk1, .ram 0x08ABC), (.blk2, .ram 0x0AABC), (.blk3, .ram 0x0CABC), (.blk5, .ram 0x0EABC)].all
      (writes 0x95 0x00 true true 0x0ABC) = true := by decide

theorem test_reads_a_superRam :
    [(.ram2, .ram 0x00ABC), (.blk1, .ram 0x28ABC), (.blk2, .ram 0x2AABC), (.blk3, .ram 0x2CABC), (.blk5, .ram 0x2EABC)].all
      (reads 0xB5 0x00 false false 0x0ABC) = true := by decide

theorem test_writes_a_superRam :
    [(.ram2, .ram 0x00ABC), (.blk1, .ram 0x28ABC), (.blk2, .ram 0x2AABC), (.blk3, .ram 0x2CABC), (.blk5, .ram 0x2EABC)].all
      (writes 0xB5 0x00 true true 0x0ABC) = true := by decide

theorem test_reads_a_ram2 :
    [(.ram2, .ram 0x00ABC), (.blk1, .ram 0x08ABC), (.blk2, .ram 0x12ABC), (.blk3, .ram 0x0CABC), (.blk5, .ram 0x16ABC)].all
      (reads 0xD5 0x00 false false 0x0ABC) = true := by decide

theorem test_writes_a_ram2 :
    [(.ram2, .ram 0x00ABC), (.blk1, .ram 0x08ABC), (.blk2, .ram 0x12ABC), (.blk3, .ram 0x0CABC), (.blk5, .ram 0x16ABC)].all
      (writes 0xD5 0x00 true true 0x0ABC) = true := by decide

theorem test_reads_a_unused :
    [(.ram2, .nowhere), (.blk1, .nowhere), (.blk2, .nowhere), (.blk3, .nowhere), (.blk5, .nowhere)].all
      (reads 0xF5 0x00 false false 0x0ABC) = true := by decide

theorem test_writes_a_unused :
    [(.ram2, .nowhere), (.blk1, .nowhere), (.blk2, .nowhere), (.blk3, .nowhere), (.blk5, .nowhere)].all
      (writes 0xF5 0x00 true true 0x0ABC) = true := by decide

/-! ### 95_test_vectors.md section 2.3, Table B: every mode against every window -/

theorem test_reads_b_start :
    [(.ram2, .nowhere), (.blk1, .nowhere), (.blk2, .nowhere), (.blk3, .nowhere)].all
      (reads 0x0A 0x40 false false 0x3FFF) = true := by decide

theorem test_reads_b_start_w5 :
    reads 0x0A 0x40 false true 0x3FFF (.blk5, .rom 0x03FFF) = true := by decide

theorem test_writes_b_start :
    [(.ram2, .nowhere), (.blk1, .nowhere), (.blk2, .nowhere), (.blk3, .nowhere)].all
      (writes 0x0A 0x40 true true 0x3FFF) = true := by decide

theorem test_writes_b_start_w5 :
    writes 0x0A 0x40 true false 0x3FFF (.blk5, .ram 0x0BFFF) = true := by decide

theorem test_reads_b_flash :
    [(.ram2, .ram 0x05FFF), (.blk1, .rom 0x55FFF), (.blk2, .rom 0x57FFF), (.blk3, .rom 0x51FFF), (.blk5, .rom 0x53FFF)].all
      (reads 0x2A 0x40 false false 0x3FFF) = true := by decide

theorem test_writes_b_flash :
    [(.ram2, .ram 0x05FFF), (.blk1, .rom 0x55FFF), (.blk2, .rom 0x57FFF), (.blk3, .rom 0x51FFF), (.blk5, .rom 0x53FFF)].all
      (writes 0x2A 0x40 true true 0x3FFF) = true := by decide

theorem test_reads_b_superRom :
    [(.ram2, .ram 0x05FFF), (.blk1, .rom 0x55FFF), (.blk2, .rom 0x57FFF), (.blk3, .rom 0x51FFF), (.blk5, .rom 0x53FFF)].all
      (reads 0x4A 0x40 false false 0x3FFF) = true := by decide

theorem test_writes_b_superRom :
    [(.ram2, .ram 0x05FFF), (.blk1, .rom 0x55FFF), (.blk2, .rom 0x57FFF), (.blk3, .rom 0x51FFF), (.blk5, .rom 0x53FFF)].all
      (writes 0x4A 0x40 true true 0x3FFF) = true := by decide

theorem test_reads_b_ramRom :
    [(.ram2, .ram 0x05FFF), (.blk1, .rom 0x05FFF), (.blk2, .ram 0x0FFFF), (.blk3, .rom 0x01FFF), (.blk5, .ram 0x0BFFF)].all
      (reads 0x6A 0x40 false false 0x3FFF) = true := by decide

theorem test_writes_b_ramRom :
    [(.ram2, .ram 0x05FFF), (.blk1, .rom 0x05FFF), (.blk2, .ram 0x0FFFF), (.blk3, .rom 0x01FFF), (.blk5, .ram 0x0BFFF)].all
      (writes 0x6A 0x40 true true 0x3FFF) = true := by decide

theorem test_reads_b_ram1 :
    [(.ram2, .ram 0x05FFF), (.blk1, .ram 0x0DFFF), (.blk2, .ram 0x0FFFF), (.blk3, .ram 0x09FFF), (.blk5, .ram 0x0BFFF)].all
      (reads 0x8A 0x40 false false 0x3FFF) = true := by decide

theorem test_writes_b_ram1 :
    [(.ram2, .ram 0x05FFF), (.blk1, .ram 0x0DFFF), (.blk2, .ram 0x0FFFF), (.blk3, .ram 0x09FFF), (.blk5, .ram 0x0BFFF)].all
      (writes 0x8A 0x40 true true 0x3FFF) = true := by decide

theorem test_reads_b_superRam :
    [(.ram2, .ram 0x05FFF), (.blk1, .ram 0x55FFF), (.blk2, .ram 0x57FFF), (.blk3, .ram 0x51FFF), (.blk5, .ram 0x53FFF)].all
      (reads 0xAA 0x40 false false 0x3FFF) = true := by decide

theorem test_writes_b_superRam :
    [(.ram2, .ram 0x05FFF), (.blk1, .ram 0x55FFF), (.blk2, .ram 0x57FFF), (.blk3, .ram 0x51FFF), (.blk5, .ram 0x53FFF)].all
      (writes 0xAA 0x40 true true 0x3FFF) = true := by decide

theorem test_reads_b_ram2 :
    [(.ram2, .ram 0x05FFF), (.blk1, .ram 0x15FFF), (.blk2, .ram 0x0FFFF), (.blk3, .ram 0x11FFF), (.blk5, .ram 0x0BFFF)].all
      (reads 0xCA 0x40 false false 0x3FFF) = true := by decide

theorem test_writes_b_ram2 :
    [(.ram2, .ram 0x05FFF), (.blk1, .ram 0x15FFF), (.blk2, .ram 0x0FFFF), (.blk3, .ram 0x11FFF), (.blk5, .ram 0x0BFFF)].all
      (writes 0xCA 0x40 true true 0x3FFF) = true := by decide

theorem test_reads_b_unused :
    [(.ram2, .nowhere), (.blk1, .nowhere), (.blk2, .nowhere), (.blk3, .nowhere), (.blk5, .nowhere)].all
      (reads 0xEA 0x40 false false 0x3FFF) = true := by decide

theorem test_writes_b_unused :
    [(.ram2, .nowhere), (.blk1, .nowhere), (.blk2, .nowhere), (.blk3, .nowhere), (.blk5, .nowhere)].all
      (writes 0xEA 0x40 true true 0x3FFF) = true := by decide

/-! ### Window 0 through ram1 and ram3 (R94, R124), in every mode that has it -/

theorem test_reads_w0_ram1_ram3 :
    [0x35, 0x55, 0x75, 0x95, 0xB5, 0xD5].all (fun m =>
      [(.ram1, .ram 0x00ABC), (.ram3, .ram 0x00ABC)].all (reads m 0x00 false false 0x0ABC)) = true := by
  decide

theorem test_writes_w0_ram1_ram3 :
    [0x35, 0x55, 0x75, 0x95, 0xB5, 0xD5].all (fun m =>
      [(.ram1, .ram 0x00ABC), (.ram3, .ram 0x00ABC)].all (writes m 0x00 false false 0x0ABC)) = true := by
  decide

/-! ### 95_test_vectors.md section 2.1: the AddressTranslator -/

theorem test_translate :
    [(0x00, 0, 0, 0x0000, 0x00000),
     (0x00, 0, 3, 0x0000, 0x06000),
     (0x00, 1, 3, 0x0000, 0x0E000),
     (0x00, 2, 1, 0x0010, 0x12010),
     (0x00, 1, 1, 0x0010, 0x0A010),
     (0x00, 15, 3, 0x1FFF, 0x7FFFF),
     (0x00, 16, 0, 0x0000, 0x00000),
     (0x00, 127, 0, 0x0000, 0x78000),
     (0x00, 69, 2, 0x1ABC, 0x2DABC),
     (0x00, 0, 1, 0x0000, 0x02000),
     (0x20, 0, 0, 0x0000, 0x02000),
     (0x20, 0, 1, 0x0000, 0x00000),
     (0x20, 0, 2, 0x0000, 0x06000),
     (0x40, 0, 1, 0x0000, 0x06000),
     (0x40, 5, 1, 0x0123, 0x2E123),
     (0x60, 0, 3, 0x0000, 0x00000),
     (0x60, 0, 0, 0x0000, 0x06000),
     (0x9F, 0, 0, 0x0000, 0x00000),
     (0xFF, 7, 2, 0x1000, 0x3B000),
     (0x00, 3, 2, 0x1FFF, 0x1DFFF)].all
      (fun (p : Byte × BitVec 7 × BitVec 2 × BitVec 13 × PhysAddr) =>
        translate defaultConfig p.1 p.2.1 p.2.2.1 p.2.2.2.1 == p.2.2.2.2) = true := by decide

/-! ### 95_test_vectors.md section 2.2: the register gate and the register match -/

theorem test_gate_read :
    [(0x00, 0x00, true, undriven),
     (0x00, 0x80, true, undriven),
     (0x00, 0x00, false, driven 0x00),
     (0x00, 0x80, false, driven 0x00),
     (0x80, 0x00, true, driven 0x80),
     (0x80, 0x80, true, undriven),
     (0x80, 0x00, false, driven 0x80),
     (0x80, 0x80, false, undriven),
     (0x20, 0x00, true, driven 0x20),
     (0x20, 0x80, true, undriven),
     (0x20, 0x00, false, driven 0x20),
     (0x20, 0x80, false, undriven),
     (0xE0, 0x00, true, undriven),
     (0xE0, 0x80, true, undriven),
     (0xE0, 0x00, false, undriven),
     (0xE0, 0x80, false, undriven)].all
      (fun (p : Byte × Byte × Bool × Option ReadResult) =>
        regsAfter (st p.1 p.2.1 p.2.2.1 [] []) (.rd 0x1C02 [.io3] none)
          == some (p.1, p.2.1, p.2.2.1, p.2.2.2)) = true := by decide

theorem test_gate_write :
    [(0x00, 0x00, true, 0x00),
     (0x00, 0x80, true, 0x00),
     (0x00, 0x00, false, 0x33),
     (0x00, 0x80, false, 0x33),
     (0x80, 0x00, true, 0x33),
     (0x80, 0x80, true, 0x80),
     (0x80, 0x00, false, 0x33),
     (0x80, 0x80, false, 0x80),
     (0x20, 0x00, true, 0x33),
     (0x20, 0x80, true, 0x20),
     (0x20, 0x00, false, 0x33),
     (0x20, 0x80, false, 0x20),
     (0xE0, 0x00, true, 0xE0),
     (0xE0, 0x80, true, 0xE0),
     (0xE0, 0x00, false, 0xE0),
     (0xE0, 0x80, false, 0xE0)].all
      (fun (p : Byte × Byte × Bool × Byte) =>
        gives (st p.1 p.2.1 p.2.2.1 [] []) (.wr 0x1C02 [.io3] 0x33)
          (st p.2.2.2 p.2.1 p.2.2.1 [] [])) = true := by decide

theorem test_register_match :
    [(0x1C02, driven 0x80),
     (0x1C03, driven 0x00),
     (0x1C00, undriven),
     (0x1C01, undriven),
     (0x1802, undriven),
     (0x1402, undriven),
     (0x0C02, undriven),
     (0x0002, undriven),
     (0x0000, undriven),
     (0x1E02, driven 0x80),
     (0x1C06, driven 0x80),
     (0x1DFF, driven 0x00),
     (0x1FFF, driven 0x00),
     (0x1FFE, driven 0x80),
     (0x9C02, driven 0x80),
     (0xFFFF, driven 0x00),
     (0xE3FD, undriven)].all
      (fun (p : BusOffset × Option ReadResult) =>
        regsAfter (st 0x80 0x00 false [] []) (.rd p.1 [.io3] none)
          == some (0x80, 0x00, false, p.2)) = true := by decide

/-- Register 1 and 2 in each of the six modes outside START (R109, R139). -/
theorem test_registers_every_mode :
    [0x25, 0x45, 0x65, 0x85, 0xA5, 0xC5].all (fun m =>
      gives (st m 0x1F true [] []) (.rd 0x1C02 [.io3] none)
        { st m 0x1F true [] [] with out := driven m } &&
      gives (st m 0x1F true [] []) (.rd 0x1C03 [.io3] none)
        { st m 0x1F true [] [] with out := driven 0x1F } &&
      gives (st m 0x1F true [] []) (.wr 0x1C02 [.io3] 0xFE) (st 0xFE 0x1F true [] []) &&
      gives (st m 0x1F true [] []) (.wr 0x1C03 [.io3] 0xFE) (st m 0xFE true [] [])) = true := by
  decide

/-- Register 2 in START (R93, R123): V[7] is not consulted there (R82). -/
theorem test_start_register_2 :
    (gives (st 0x00 0x82 false [] []) (.rd 0x1C03 [.io3] none)
        { st 0x00 0x82 false [] [] with out := driven 0x82 } &&
      gives (st 0x00 0x82 false [] []) (.wr 0x1C03 [.io3] 0x20) (st 0x00 0x20 false [] [])) = true := by
  decide

/-! ### 95_test_vectors.md section 2.4: visibility gating -/

theorem test_hidden_reads :
    [(0x20, 0x02, Signal.blk1), (0x40, 0x02, .blk1), (0x60, 0x02, .blk1), (0x80, 0x02, .blk1),
      (0xA0, 0x02, .blk1), (0xC0, 0x02, .blk1), (0x80, 0x01, .ram1), (0x80, 0x04, .blk2),
      (0x80, 0x08, .blk3), (0x80, 0x10, .blk5), (0x00, 0x10, .blk5)].all
      (fun (p : Byte × Byte × Signal) =>
        reads p.1 p.2.1 false false 0x0000 (p.2.2, .nowhere)) = true := by decide

theorem test_hidden_writes :
    [(0x20, 0x02, Signal.blk1), (0x40, 0x02, .blk1), (0x60, 0x02, .blk1), (0x80, 0x02, .blk1),
      (0xA0, 0x02, .blk1), (0xC0, 0x02, .blk1), (0x80, 0x01, .ram3), (0x00, 0x10, .blk5)].all
      (fun (p : Byte × Byte × Signal) =>
        writes p.1 p.2.1 true true 0x0000 (p.2.2, .nowhere)) = true := by decide

/-- START with V = 0x0F: only the other windows are hidden. -/
theorem test_start_other_windows_hidden :
    (regsAfter (st 0x00 0x0F true [] [(0x06000, 0x03)]) (.rd 0x0000 [.blk5] none)
        == some (0x00, 0x0F, true, driven 0x03) &&
      gives (st 0x00 0x0F true [] []) (.wr 0x0000 [.blk5] 0x42)
        (st 0x00 0x0F false [(0x0E000, 0x42)] [])) = true := by decide

/-! ### 95_test_vectors.md section 2.5: several select signals at once -/

theorem test_multi_window5_wins :
    (regsAfter (st 0x80 0x00 false [(0x08000, 0x11), (0x0E000, 0x22)] [])
        (.rd 0x0000 [.blk1, .blk5] none) == some (0x80, 0x00, false, driven 0x22) &&
      regsAfter (st 0x80 0x10 false [(0x08000, 0x11), (0x0E000, 0x22)] [])
        (.rd 0x0000 [.blk1, .blk5] none) == some (0x80, 0x10, false, driven 0x11)) = true := by decide

theorem test_multi_write_window_and_register :
    gives (st 0x80 0x00 false [] []) (.wr 0x1C03 [.blk3, .io3] 0x80)
      (st 0x80 0x80 false [(0x0DC03, 0x80)] []) = true := by decide

theorem test_multi_start_read_locks_first :
    regsAfter (st 0x00 0x00 false [] [(0x07C02, 0x01)]) (.rd 0x1C02 [.blk5, .io3] none)
      == some (0x00, 0x00, true, driven 0x01) := by decide

theorem test_multi_start_write_unlocks_first :
    gives (st 0x00 0x00 true [] []) (.wr 0x1C03 [.blk5, .io3] 0x10)
      (st 0x00 0x10 false [(0x0FC03, 0x10)] []) = true := by decide

theorem test_multi_all_windows :
    regsAfter (st 0x40 0x00 false [] [(0x06000, 0x03)])
      (.rd 0x0000 [.ram1, .blk1, .blk2, .blk3, .blk5, .io2] none)
      == some (0x40, 0x00, false, driven 0x03) := by decide

/-- Program P6 step 5: windows 0 and 1 at the same byte, and window 2. -/
theorem test_multi_write_three_windows :
    gives (st 0xA0 0x00 false [] []) (.wr 0x0040 [.ram1, .blk1, .blk2] 0x3C)
      (st 0xA0 0x00 false [(0x00040, 0x3C), (0x02040, 0x3C)] []) = true := by decide

/-! ### 95_test_vectors.md section 2.6: UNUSED and RESET -/

theorem test_unused :
    (gives (st 0xE0 0x00 false [] []) (.rd 0x1C02 [.io3] none)
        { st 0xE0 0x00 false [] [] with out := undriven } &&
      gives (st 0xE0 0x00 false [] []) (.wr 0x1C02 [.io3] 0x00) (st 0xE0 0x00 false [] []) &&
      gives (st 0xFF 0x00 false [] []) (.rd 0x0000 [.ram1, .blk1, .blk2, .blk3, .blk5, .io3] none)
        { st 0xFF 0x00 false [] [] with out := undriven }) = true := by decide

theorem test_reset :
    [(0xE0, 0xFF, false), (0x00, 0x00, true), (0xA5, 0x60, false)].all
      (fun (p : Byte × Byte × Bool) =>
        gives (st p.1 p.2.1 p.2.2 [(0x0E000, 0x42)] []) .rst
          (st 0x00 0x00 true [(0x0E000, 0x42)] [])) = true := by decide

theorem test_io2_ignored :
    (reads 0x80 0x00 false false 0x1C02 (.io2, .nowhere) &&
      writes 0x80 0x00 false false 0x1C02 (.io2, .nowhere)) = true := by decide

/-! ### The parameters that are not at their defaults (00_scope.md R7) -/

/-- Section 2.4: "with the other value the READ would return ROM[0x06000] = 0x03 and set L". -/
theorem test_start_w5_ungated :
    regsAfter { st 0x00 0x10 false [] [(0x06000, 0x03)] with
      cfg := { defaultConfig with startW5VisGated := false } } (.rd 0x0000 [.blk5] none)
      == some (0x00, 0x10, true, driven 0x03) := by decide

/-- Section 2.3: under ROM_MODE_WRITE_TARGET = RAM, Table A's SUPER_ROM and RAM_ROM window 2. -/
theorem test_rom_mode_write_target_ram :
    ((answer { st 0x55 0x00 false [] [] with
        cfg := { defaultConfig with romModeWriteTarget := .ram } } (.wr 0x0ABC [.blk2] 0x3C)).map (·.ram)
        == some [(0x2AABC, 0x3C)] &&
      (answer { st 0x75 0x00 false [] [] with
        cfg := { defaultConfig with romModeWriteTarget := .ram } } (.wr 0x0ABC [.blk2] 0x3C)).map (·.ram)
        == some [(0x0AABC, 0x3C)]) = true := by decide

/-! ### Commands and words (30_encoding.md R61, R62) -/

theorem test_words_of_r61 :
    (assemble (.rd 0x0000 [.blk5] none) == 0x0400000FF &&
      assemble (.wr 0x0000 [.blk5] 0x42) == 0x240000042 && assemble .rst == 0x400000000) = true := by
  decide

theorem test_set_mode :
    expandPseudo defaultModeEnc (.setMode .superRam 0b00101) = .wr 0x1C02 [.io3] 0xA5 := by decide

theorem test_unlock : assemble (expandPseudo defaultModeEnc (.unlock 0x42)) = 0x240000042 := by decide

theorem test_command_text :
    commandText (.rd 0x1C02 [.blk5, .io3] none) =
      "RD 0x1C02, ".toList ++ [Char.ofNat 0x7B] ++ "blk5,io3".toList ++ [Char.ofNat 0x7D] := by decide

theorem test_save_restore :
    ((st 0xA5 0x60 false [] []).restore { m := 0x80, v := 0x02, latch := true }).save =
      { m := 0x80, v := 0x02, latch := true } := by decide

/-! ### Decoding: keys written out from 30_encoding.md R54 and R57, with other state bits set

Each key is `L : V : M : RST RW io3 .. ram1 : OFFSET : DATA`; the bits of M and V that the row leaves
open are not all zero. -/

theorem test_decode_reset :
    [(0x3052C00000000, .reset)].all decodes = true := by decide

theorem test_decode_rd_ignored :
    [(0x3F8E88082C9B7, .rdAnyIo2 (acc 0x82C9 [.io2] 0xB7))].all decodes = true := by decide

theorem test_decode_rd_unused :
    [(0xBF7F020504E39, .rdUnusedAny (acc 0x504E [.blk3] 0x39))].all decodes = true := by decide

theorem test_decode_rd_start :
    [(0xE80680134357F, .rdStartW0Ram1 (acc 0x3435 [.ram1] 0x7F)),
     (0xA3020025D39C7, .rdStartW0Ram2 (acc 0x5D39 [.ram2] 0xC7)),
     (0x350000440DE43, .rdStartW0Ram3 (acc 0x40DE [.ram3] 0x43)),
     (0x328A00854EB55, .rdStartW1 (acc 0x54EB [.blk1] 0x55)),
     (0x85898105D0364, .rdStartW2 (acc 0x5D03 [.blk2] 0x64)),
     (0x9088020D46E54, .rdStartW3 (acc 0xD46E [.blk3] 0x54)),
     (0xC7020409A4B01, .rdStartW5 (acc 0x9A4B [.blk5] 0x01)),
     (0x788F100BDAEF6, .rdStartReg1 (acc 0xBDAE [.io3] 0xF6)),
     (0x670B1009F2B1D, .rdStartReg2 (acc 0x9F2B [.io3] 0x1D))].all decodes = true := by decide

theorem test_decode_rd_flash :
    [(0x821C0010940D6, .rdFlashW0Ram1 (acc 0x0940 [.ram1] 0xD6)),
     (0xBE1380217EC5C, .rdFlashW0Ram2 (acc 0x17EC [.ram2] 0x5C)),
     (0x7618004B052B5, .rdFlashW0Ram3 (acc 0xB052 [.ram3] 0xB5)),
     (0x161D808BC0E97, .rdFlashW1 (acc 0xBC0E [.blk1] 0x97)),
     (0x449A810AE75B9, .rdFlashW2 (acc 0xAE75 [.blk2] 0xB9)),
     (0x10158209FF9A2, .rdFlashW3 (acc 0x9FF9 [.blk3] 0xA2)),
     (0x94918409E5DF7, .rdFlashW5 (acc 0x9E5D [.blk5] 0xF7)),
     (0x2B9E900BC0A79, .rdFlashReg1 (acc 0xBC0A [.io3] 0x79)),
     (0x2116900FCB710, .rdFlashReg2 (acc 0xFCB7 [.io3] 0x10))].all decodes = true := by decide

theorem test_decode_rd_super_rom :
    [(0x5F2D801D3E036, .rdSuperRomW0Ram1 (acc 0xD3E0 [.ram1] 0x36)),
     (0x74248021E17D7, .rdSuperRomW0Ram2 (acc 0x1E17 [.ram2] 0xD7)),
     (0xC62F004E836F9, .rdSuperRomW0Ram3 (acc 0xE836 [.ram3] 0xF9)),
     (0x60A3808F0AECE, .rdSuperRomW1 (acc 0xF0AE [.blk1] 0xCE)),
     (0xFDA2810FFA7AD, .rdSuperRomW2 (acc 0xFFA7 [.blk2] 0xAD)),
     (0xCA21020B8FF20, .rdSuperRomW3 (acc 0xB8FF [.blk3] 0x20)),
     (0x57290408FCBF8, .rdSuperRomW5 (acc 0x8FCB [.blk5] 0xF8)),
     (0xB6A89009C5AF2, .rdSuperRomReg1 (acc 0x9C5A [.io3] 0xF2)),
     (0x19AD1009C3BB2, .rdSuperRomReg2 (acc 0x9C3B [.io3] 0xB2))].all decodes = true := by decide

theorem test_decode_rd_ram_rom :
    [(0x2A34801E64ABA, .rdRamRomW0Ram1 (acc 0xE64A [.ram1] 0xBA)),
     (0x6A32802B95BF4, .rdRamRomW0Ram2 (acc 0xB95B [.ram2] 0xF4)),
     (0x0738804D7729A, .rdRamRomW0Ram3 (acc 0xD772 [.ram3] 0x9A)),
     (0x2E3600851EEE1, .rdRamRomW1S0 (acc 0x51EE [.blk1] 0xE1)),
     (0x2231808F17373, .rdRamRomW1S1 (acc 0xF173 [.blk1] 0x73)),
     (0x8934010A27B5C, .rdRamRomW2S0 (acc 0xA27B [.blk2] 0x5C)),
     (0x3432010EE3FB3, .rdRamRomW2S1 (acc 0xEE3F [.blk2] 0xB3)),
     (0xC338820BF7E00, .rdRamRomW3S0 (acc 0xBF7E [.blk3] 0x00)),
     (0x983D8203AEBBF, .rdRamRomW3S1 (acc 0x3AEB [.blk3] 0xBF)),
     (0xE334040ADC296, .rdRamRomW5S0 (acc 0xADC2 [.blk5] 0x96)),
     (0xE1BD040BD27EF, .rdRamRomW5S1 (acc 0xBD27 [.blk5] 0xEF)),
     (0x21B01003E8244, .rdRamRomReg1 (acc 0x3E82 [.io3] 0x44)),
     (0x2EBD900BEA348, .rdRamRomReg2 (acc 0xBEA3 [.io3] 0x48))].all decodes = true := by decide

theorem test_decode_rd_ram_1 :
    [(0x624C001FCA095, .rdRam1W0Ram1 (acc 0xFCA0 [.ram1] 0x95)),
     (0x6A4800285079A, .rdRam1W0Ram2 (acc 0x8507 [.ram2] 0x9A)),
     (0xA449004A3679D, .rdRam1W0Ram3 (acc 0xA367 [.ram3] 0x9D)),
     (0x4A478080C2C3E, .rdRam1W1 (acc 0x0C2C [.blk1] 0x3E)),
     (0x444F01045DBC8, .rdRam1W2 (acc 0x45DB [.blk2] 0xC8)),
     (0x40CF820F2D412, .rdRam1W3 (acc 0xF2D4 [.blk3] 0x12)),
     (0x164F040924B96, .rdRam1W5 (acc 0x924B [.blk5] 0x96)),
     (0x0BCA9009C8E99, .rdRam1Reg1 (acc 0x9C8E [.io3] 0x99)),
     (0x80C1100BCDBB3, .rdRam1Reg2 (acc 0xBCDB [.io3] 0xB3))].all decodes = true := by decide

theorem test_decode_rd_super_ram :
    [(0x8356001E94637, .rdSuperRamW0Ram1 (acc 0xE946 [.ram1] 0x37)),
     (0x645F002DAFFF6, .rdSuperRamW0Ram2 (acc 0xDAFF [.ram2] 0xF6)),
     (0x805980497C8EE, .rdSuperRamW0Ram3 (acc 0x97C8 [.ram3] 0xEE)),
     (0xAA54808929DF1, .rdSuperRamW1 (acc 0x929D [.blk1] 0xF1)),
     (0x6CD4810FED0A9, .rdSuperRamW2 (acc 0xFED0 [.blk2] 0xA9)),
     (0x1052820230775, .rdSuperRamW3 (acc 0x2307 [.blk3] 0x75)),
     (0x74DC840AA85DB, .rdSuperRamW5 (acc 0xAA85 [.blk5] 0xDB)),
     (0x8AD41007C3E3E, .rdSuperRamReg1 (acc 0x7C3E [.io3] 0x3E)),
     (0x11551005EDF5D, .rdSuperRamReg2 (acc 0x5EDF [.io3] 0x5D))].all decodes = true := by decide

theorem test_decode_rd_ram_2 :
    [(0x4762001164D37, .rdRam2W0Ram1 (acc 0x164D [.ram1] 0x37)),
     (0x6E600023C98CC, .rdRam2W0Ram2 (acc 0x3C98 [.ram2] 0xCC)),
     (0x5F6B004A10FFA, .rdRam2W0Ram3 (acc 0xA10F [.ram3] 0xFA)),
     (0xB86800846C696, .rdRam2W1S0 (acc 0x46C6 [.blk1] 0x96)),
     (0x2269008205978, .rdRam2W1S1 (acc 0x2059 [.blk1] 0x78)),
     (0x21E5810BE0FE8, .rdRam2W2S0 (acc 0xBE0F [.blk2] 0xE8)),
     (0x9DE2810AEE62B, .rdRam2W2S1 (acc 0xAEE6 [.blk2] 0x2B)),
     (0x52EB0207A27C7, .rdRam2W3S0 (acc 0x7A27 [.blk3] 0xC7)),
     (0x69E48200F15C4, .rdRam2W3S1 (acc 0x0F15 [.blk3] 0xC4)),
     (0xA3E68403B6E2A, .rdRam2W5S0 (acc 0x3B6E [.blk5] 0x2A)),
     (0xD16A840B56678, .rdRam2W5S1 (acc 0xB566 [.blk5] 0x78)),
     (0x1CED900BF7645, .rdRam2Reg1 (acc 0xBF76 [.io3] 0x45)),
     (0x0963100DE835C, .rdRam2Reg2 (acc 0xDE83 [.io3] 0x5C))].all decodes = true := by decide

theorem test_decode_wr_ignored :
    [(0xFB0FA805F6867, .wrAnyIo2 (acc 0x5F68 [.io2] 0x67))].all decodes = true := by decide

theorem test_decode_wr_unused :
    [(0xEDF9A200039DA, .wrUnusedAny (acc 0x0039 [.blk3] 0xDA))].all decodes = true := by decide

theorem test_decode_wr_start :
    [(0x2706201EE5FEC, .wrStartW0Ram1 (acc 0xEE5F [.ram1] 0xEC)),
     (0xA60F2022473BF, .wrStartW0Ram2 (acc 0x2473 [.ram2] 0xBF)),
     (0x3C0920438708E, .wrStartW0Ram3 (acc 0x3870 [.ram3] 0x8E)),
     (0x508BA08F6CD10, .wrStartW1 (acc 0xF6CD [.blk1] 0x10)),
     (0x9C04A100B21E9, .wrStartW2 (acc 0x0B21 [.blk2] 0xE9)),
     (0x0885220950BE8, .wrStartW3 (acc 0x950B [.blk3] 0xE8)),
     (0xD50CA400CC376, .wrStartW5 (acc 0x0CC3 [.blk5] 0x76)),
     (0x7782300BD12EF, .wrStartReg1 (acc 0xBD12 [.io3] 0xEF)),
     (0x6E013005DEF7B, .wrStartReg2 (acc 0x5DEF [.io3] 0x7B))].all decodes = true := by decide

theorem test_decode_wr_flash :
    [(0xF311A018A9A03, .wrFlashW0Ram1 (acc 0x8A9A [.ram1] 0x03)),
     (0x181B20256EA17, .wrFlashW0Ram2 (acc 0x56EA [.ram2] 0x17)),
     (0x0D1F2047957FB, .wrFlashW0Ram3 (acc 0x7957 [.ram3] 0xFB)),
     (0x8C11A0819D5FE, .wrFlashW1 (acc 0x19D5 [.blk1] 0xFE)),
     (0x0991A10D0A0E4, .wrFlashW2 (acc 0xD0A0 [.blk2] 0xE4)),
     (0x91972205BD8CE, .wrFlashW3 (acc 0x5BD8 [.blk3] 0xCE)),
     (0x131524037492C, .wrFlashW5 (acc 0x3749 [.blk5] 0x2C)),
     (0x201DB00BF1AE1, .wrFlashReg1 (acc 0xBF1A [.io3] 0xE1)),
     (0xA393B00FDEB9D, .wrFlashReg2 (acc 0xFDEB [.io3] 0x9D))].all decodes = true := by decide

theorem test_decode_wr_super_rom :
    [(0x502CA01F7682C, .wrSuperRomW0Ram1 (acc 0xF768 [.ram1] 0x2C)),
     (0x9527A02427629, .wrSuperRomW0Ram2 (acc 0x4276 [.ram2] 0x29)),
     (0x3F2FA047DA38D, .wrSuperRomW0Ram3 (acc 0x7DA3 [.ram3] 0x8D)),
     (0x9223208665392, .wrSuperRomW1 (acc 0x6653 [.blk1] 0x92)),
     (0x4920210A0BBC2, .wrSuperRomW2 (acc 0xA0BB [.blk2] 0xC2)),
     (0x8820A200E7FE2, .wrSuperRomW3 (acc 0x0E7F [.blk3] 0xE2)),
     (0x5224240890F36, .wrSuperRomW5 (acc 0x890F [.blk5] 0x36)),
     (0x92AFB005E5256, .wrSuperRomReg1 (acc 0x5E52 [.io3] 0x56)),
     (0x0CA3B001E4720, .wrSuperRomReg2 (acc 0x1E47 [.io3] 0x20))].all decodes = true := by decide

theorem test_decode_wr_ram_rom :
    [(0xBB30A01B6DCDF, .wrRamRomW0Ram1 (acc 0xB6DC [.ram1] 0xDF)),
     (0x5B3AA02402AB9, .wrRamRomW0Ram2 (acc 0x402A [.ram2] 0xB9)),
     (0x2B38A04539B53, .wrRamRomW0Ram3 (acc 0x539B [.ram3] 0x53)),
     (0xD432A08E476DE, .wrRamRomW1S0 (acc 0xE476 [.blk1] 0xDE)),
     (0xAABDA08E44374, .wrRamRomW1S1 (acc 0xE443 [.blk1] 0x74)),
     (0x7DBD21018CB52, .wrRamRomW2S0 (acc 0x18CB [.blk2] 0x52)),
     (0x3533A10350640, .wrRamRomW2S1 (acc 0x3506 [.blk2] 0x40)),
     (0xE0BB22010D478, .wrRamRomW3S0 (acc 0x10D4 [.blk3] 0x78)),
     (0xC9B62206E6567, .wrRamRomW3S1 (acc 0x6E65 [.blk3] 0x67)),
     (0x87B7A407BADBB, .wrRamRomW5S0 (acc 0x7BAD [.blk5] 0xBB)),
     (0xB53CA40CD3DB2, .wrRamRomW5S1 (acc 0xCD3D [.blk5] 0xB2)),
     (0x993CB003C0213, .wrRamRomReg1 (acc 0x3C02 [.io3] 0x13)),
     (0xB2B2B00FC4FA5, .wrRamRomReg2 (acc 0xFC4F [.io3] 0xA5))].all decodes = true := by decide

theorem test_decode_wr_ram_1 :
    [(0x6345A01052935, .wrRam1W0Ram1 (acc 0x0529 [.ram1] 0x35)),
     (0xF94C202A26D0D, .wrRam1W0Ram2 (acc 0xA26D [.ram2] 0x0D)),
     (0xEA44A04E6451F, .wrRam1W0Ram3 (acc 0xE645 [.ram3] 0x1F)),
     (0x12C92080A5269, .wrRam1W1 (acc 0x0A52 [.blk1] 0x69)),
     (0x81C9A102CAEB6, .wrRam1W2 (acc 0x2CAE [.blk2] 0xB6)),
     (0xC8C2A20780424, .wrRam1W3 (acc 0x7804 [.blk3] 0x24)),
     (0x16C2A406AE0F7, .wrRam1W5 (acc 0x6AE0 [.blk5] 0xF7)),
     (0x20CC300DD6ED8, .wrRam1Reg1 (acc 0xDD6E [.io3] 0xD8)),
     (0x1FC3300DDFBA4, .wrRam1Reg2 (acc 0xDDFB [.io3] 0xA4))].all decodes = true := by decide

theorem test_decode_wr_super_ram :
    [(0x4459A01333B6C, .wrSuperRamW0Ram1 (acc 0x333B [.ram1] 0x6C)),
     (0x3955A0255B827, .wrSuperRamW0Ram2 (acc 0x55B8 [.ram2] 0x27)),
     (0x7B5DA04D064D5, .wrSuperRamW0Ram3 (acc 0xD064 [.ram3] 0xD5)),
     (0x54D2A089ACAD6, .wrSuperRamW1 (acc 0x9ACA [.blk1] 0xD6)),
     (0x49D3A10D7F80F, .wrSuperRamW2 (acc 0xD7F8 [.blk2] 0x0F)),
     (0x50D3220DE1E61, .wrSuperRamW3 (acc 0xDE1E [.blk3] 0x61)),
     (0x51D22401F6EF8, .wrSuperRamW5 (acc 0x1F6E [.blk5] 0xF8)),
     (0x00533007D4AC4, .wrSuperRamReg1 (acc 0x7D4A [.io3] 0xC4)),
     (0x1E54B003F8739, .wrSuperRamReg2 (acc 0x3F87 [.io3] 0x39))].all decodes = true := by decide

theorem test_decode_wr_ram_2 :
    [(0x5D63201E1DDA5, .wrRam2W0Ram1 (acc 0xE1DD [.ram1] 0xA5)),
     (0x5F6A202210064, .wrRam2W0Ram2 (acc 0x2100 [.ram2] 0x64)),
     (0xF76CA04EAD72A, .wrRam2W0Ram3 (acc 0xEAD7 [.ram3] 0x2A)),
     (0x80E420802E03C, .wrRam2W1S0 (acc 0x02E0 [.blk1] 0x3C)),
     (0x4AEFA08C31BAF, .wrRam2W1S1 (acc 0xC31B [.blk1] 0xAF)),
     (0xD5E42103BD3F5, .wrRam2W2S0 (acc 0x3BD3 [.blk2] 0xF5)),
     (0x9C62A10488294, .wrRam2W2S1 (acc 0x4882 [.blk2] 0x94)),
     (0x08E9A20D0F2AC, .wrRam2W3S0 (acc 0xD0F2 [.blk3] 0xAC)),
     (0xA166220D76D79, .wrRam2W3S1 (acc 0xD76D [.blk3] 0x79)),
     (0x62E5A403129F4, .wrRam2W5S0 (acc 0x3129 [.blk5] 0xF4)),
     (0x156C2402F03E7, .wrRam2W5S1 (acc 0x2F03 [.blk5] 0xE7)),
     (0xB5683001C66B8, .wrRam2Reg1 (acc 0x1C66 [.io3] 0xB8)),
     (0x836E3007FEB1B, .wrRam2Reg2 (acc 0x7FEB [.io3] 0x1B))].all decodes = true := by decide

theorem test_decode_rejects_wide_key :
    decodeKey defaultConfig 56 0x10000000000000 = .error .keyTooWide := by decide

/-- Section 2.6, last row: window 1 hidden, no row fires. -/
theorem test_decode_no_row :
    decodeKey defaultConfig 52 0x41400080000FF = .error .noRow := by decide

/-! ### WellFormed refuses -/

theorem test_wf_refuses_ram1 : (Instr.rdFlashW0Ram1 (acc 0 [.ram2, .ram3] 0)).wellFormed = false := by decide

theorem test_wf_refuses_ram2 : (Instr.wrStartW0Ram2 (acc 0 [.ram1] 0)).wellFormed = false := by decide

theorem test_wf_refuses_ram3 : (Instr.rdRam2W0Ram3 (acc 0 [.ram1] 0)).wellFormed = false := by decide

theorem test_wf_refuses_blk1 : (Instr.rdRam1W1 (acc 0 [.blk2] 0)).wellFormed = false := by decide

theorem test_wf_refuses_blk2 : (Instr.wrRam2W2S1 (acc 0 [.blk1] 0)).wellFormed = false := by decide

theorem test_wf_refuses_blk3 : (Instr.wrFlashW3 (acc 0 [.blk5] 0)).wellFormed = false := by decide

theorem test_wf_refuses_blk5 : (Instr.rdStartW5 (acc 0 [.io3] 0)).wellFormed = false := by decide

theorem test_wf_refuses_io2 : (Instr.rdAnyIo2 (acc 0 [.io3] 0)).wellFormed = false := by decide

theorem test_wf_refuses_io3 : (Instr.rdRam1Reg1 (acc 0x1C02 [.io2] 0)).wellFormed = false := by decide

theorem test_wf_refuses_offset : (Instr.rdRam1Reg1 (acc 0x1C00 [.io3] 0)).wellFormed = false := by decide

theorem test_wf_refuses_register_1 :
    (Instr.wrRam1Reg1 (acc 0x1C03 [.io3] 0)).wellFormed = false := by decide

theorem test_wf_refuses_register_2 :
    (Instr.wrRam1Reg2 (acc 0x1C02 [.io3] 0)).wellFormed = false := by decide

/-! ### The step's first instruction after reset -/

theorem test_fetch_word_runs :
    (match step (State.reset.withFetchWord 56 0x0040240000055) with
      | .next t => t.ram == [(0x0E000, 0x55)] && t.m == 0x80 && t.pending == []
      | _ => false) = true := by decide

/-! ### Witnesses: the hypotheses of each statement can be met -/

/-- Every window and register select, at the top offset, all in one access. -/
def allSelected : Access :=
  acc 0x1FFF [.ram1, .ram2, .ram3, .blk1, .blk2, .blk3, .blk5, .io2, .io3] 0x5A

/-- The same access at the first register. -/
def allSelected1 : Access :=
  acc 0x1FFE [.ram1, .ram2, .ram3, .blk1, .blk2, .blk3, .blk5, .io2, .io3] 0x5A

/-- A state with a command pending. -/
def queued (s : State) (cmds : List Command) : State :=
  { s with pending := cmds.map assemble }

/-- The step answers a next state with this property. -/
def stepThen (s : State) (p : State → Bool) : Bool :=
  match step s with
  | .next t => p t
  | _ => false

/-- `n` steps answer a next state with this property. -/
def runThen (n : Nat) (s : State) (p : State → Bool) : Bool :=
  match run n s with
  | .next t => p t
  | _ => false

theorem witness_DecodeEncodeAgree :
    defaultModeEnc.wf = true ∧ (Instr.rdRam2W5S1 allSelected).wellFormed = true ∧
      (Instr.wrSuperRamReg2 allSelected).wellFormed = true ∧ Instr.reset.wellFormed = true := by decide

theorem witness_DecodeEncodeAgree_other_encoding :
    ({ start := 0, flash := 7, superRom := 3, ramRom := 1, ram1 := 6, superRam := 2, ram2 := 4 } :
      ModeEnc).wf = true := by decide

theorem witness_DecoderAgreesWithOpcodeTable :
    (0x00310080007FF : Key) &&& (Instr.rdRamRomW1S1 (acc 7 [.blk1] 0xFF)).row.mask =
        (Instr.rdRamRomW1S1 (acc 7 [.blk1] 0xFF)).row.pattern ∧
      decodeSlot defaultConfig .blk1 (keyView 0x00310080007FF) =
        some (.rdRamRomW1S1 (acc 7 [.blk1] 0xFF)) := by decide

theorem witness_TransactionWordsReadBack : (0x3FFFFFFFF : TW).getLsbD 34 = false := by decide

theorem witness_ModeEncodingInvertible : defaultModeEnc.wf = true := by decide

theorem witness_RegisterFieldDefaults : State.reset.cfg = defaultConfig := by decide

theorem witness_RegisterWindowMatch :
    regMatch allSelected = true ∧ regNo allSelected = true ∧ regMatch allSelected1 = true ∧
      regNo allSelected1 = false ∧
      allSelected.off &&& 0x1C03 = (acc 0x1C03 [] 0).off &&& 0x1C03 := by decide

theorem witness_RegisterGate :
    State.reset.cfg = defaultConfig ∧ (st 0x00 0x80 false [] []).granted allSelected = true ∧
      (st 0x80 0x7F true [] []).granted allSelected = true ∧
      (st 0xE0 0x00 false [] []).granted allSelected = false := by decide

theorem witness_TranslateFormula : defaultConfig.bankMask = 0xF := by decide

theorem witness_TranslateBijective :
    defaultConfig.bankMask = 0xF ∧ (15 : BitVec 7).toNat < 16 ∧
      translate defaultConfig 0x60 15 3 0x1FFF = translate defaultConfig 0x60 15 3 0x1FFF := by decide

theorem witness_TranslateSwapsBlocks :
    (0x20 : Byte).extractLsb' 5 2 = 1 ∧
      translate defaultConfig 0x20 5 2 7 = translate defaultConfig 0x20 5 2 7 := by decide

theorem witness_TranslateReadsOnlySwap :
    (st 0x00 0x60 true [] []).cfg = (st 0xFF 0xFF false [(1, 2)] []).cfg ∧
      (st 0x00 0x60 true [] []).v.extractLsb' 5 2 = (st 0xFF 0xFF false [(1, 2)] []).v.extractLsb' 5 2 ∧
      (st 0x00 0x60 true [] []).cfg.bankMask = 0xF := by decide

theorem witness_ReadStartWindow5 :
    (st 0x1F 0x0F true [] []).mode = .start ∧ allSelected.sel.blk5 = true ∧
      (st 0x1F 0x0F true [] []).vis (.win .w5) = true := by decide

theorem witness_ReadStartWindow5_ungated :
    ({ st 0x00 0x10 true [] [] with cfg := { defaultConfig with startW5VisGated := false } }).mode =
        .start ∧
      ({ st 0x00 0x10 true [] [] with cfg := { defaultConfig with startW5VisGated := false } }).vis
        (.win .w5) = false := by decide

theorem witness_ReadStartWindow5_hidden :
    (st 0x00 0x10 true [] []).mode = .start ∧ (st 0x00 0x10 true [] []).vis (.win .w5) = false ∧
      (st 0x00 0x10 true [] []).cfg.startW5VisGated = true := by decide

theorem witness_Registers_granted :
    [(0x00, Mode.start), (0x20, .flash), (0x40, .superRom), (0x60, .ramRom), (0x80, .ram1),
      (0xA0, .superRam), (0xC0, .ram2)].all (fun (p : Byte × Mode) =>
        (st p.1 0x7F false [] []).mode == p.2 && (st p.1 0x7F false [] []).granted allSelected &&
        (st p.1 0x7F false [] []).granted allSelected1) = true ∧
      regNo allSelected = true ∧ regNo allSelected1 = false := by decide

theorem witness_Registers_refused :
    [(0x00, Mode.start), (0x20, .flash), (0x40, .superRom), (0x60, .ramRom), (0x80, .ram1),
      (0xA0, .superRam), (0xC0, .ram2)].all (fun (p : Byte × Mode) =>
        (st p.1 0x80 true [] []).mode == p.2 && !(st p.1 0x80 true [] []).granted allSelected &&
        !(st p.1 0x80 true [] []).granted allSelected1) = true := by decide

/-- Each mode outside START, canonical RAM, every signal asserted, every window visible: at the top
bank and offset, with all select bits clear and with all set. -/
theorem witness_Windows_visible :
    [(0x2F, Mode.flash), (0x4F, .superRom), (0x8F, .ram1), (0xAF, .superRam)].all
      (fun (p : Byte × Mode) =>
        (st p.1 0x60 false [(0x7FFFF, 0x99)] []).mode == p.2 &&
        (st p.1 0x60 false [(0x7FFFF, 0x99)] []).vis .w0 &&
        memWf (st p.1 0x60 false [(0x7FFFF, 0x99)] []).ram &&
        [Window.w1, .w2, .w3, .w5].all fun w =>
          (st p.1 0x60 false [(0x7FFFF, 0x99)] []).vis (.win w) && selectsWindow allSelected w) =
      true ∧ allSelected.sel.ram1 = true ∧ allSelected.sel.ram2 = true ∧
      allSelected.sel.ram3 = true := by decide

theorem witness_Windows_select_bits :
    [(0x60, Mode.ramRom, false), (0x7F, .ramRom, true), (0xC0, .ram2, false), (0xDF, .ram2, true)].all
      (fun (p : Byte × Mode × Bool) =>
        (st p.1 0x60 false [] []).mode == p.2.1 && memWf (st p.1 0x60 false [] []).ram &&
        (st p.1 0x60 false [] []).vis .w0 &&
        [Window.w1, .w2, .w3, .w5].all fun w =>
          (st p.1 0x60 false [] []).vis (.win w) && (st p.1 0x60 false [] []).sel w == p.2.2 &&
          selectsWindow allSelected w) = true := by decide

theorem witness_Windows_hidden :
    [(0x2F, Mode.flash), (0x4F, .superRom), (0x7F, .ramRom), (0x60, .ramRom), (0x8F, .ram1),
      (0xAF, .superRam), (0xDF, .ram2), (0xC0, .ram2)].all
      (fun (p : Byte × Mode) =>
        (st p.1 0x1F false [] []).mode == p.2 && !(st p.1 0x1F false [] []).vis .w0 &&
        [Window.w1, .w2, .w3, .w5].all fun w => !(st p.1 0x1F false [] []).vis (.win w)) = true := by
  decide

theorem witness_WriteRomModes_both_targets :
    (st 0x4F 0x00 false [] []).cfg.romModeWriteTarget = .rom ∧
      ({ st 0x4F 0x00 false [] [] with
        cfg := { defaultConfig with romModeWriteTarget := .ram } }).cfg.romModeWriteTarget = .ram ∧
      ({ st 0x4F 0x00 false [] [] with
        cfg := { defaultConfig with romModeWriteTarget := .ram } }).mode = .superRom ∧
      ({ st 0x7F 0x00 false [] [] with
        cfg := { defaultConfig with romModeWriteTarget := .ram } }).mode = .ramRom := by decide

theorem witness_ReadWindows_ReadRam1Windows :
    (st 0x80 0x00 false [(0x0FFFF, 0x77)] []).mode = .ram1 ∧ allSelected.sel.blk5 = true ∧
      (st 0x80 0x00 false [(0x0FFFF, 0x77)] []).vis (.win .w5) = true ∧
      memRead (st 0x80 0x00 false [(0x0FFFF, 0x77)] []).ram
        ((st 0x80 0x00 false [(0x0FFFF, 0x77)] []).addr 1 3 allSelected).toNat = 0x77 := by decide

theorem witness_WriteStartWindow5 :
    memWf (st 0x1F 0x0F true [(0x7FFFF, 1)] []).ram = true ∧
      (st 0x1F 0x0F true [(0x7FFFF, 1)] []).mode = .start ∧
      (st 0x1F 0x0F true [(0x7FFFF, 1)] []).vis (.win .w5) = true := by decide

theorem witness_ResetSetsRegisters :
    exec .reset (st 0xE0 0xFF false [] []) = .next (st 0x00 0x00 true [] []) := rfl

theorem witness_RowsActOnlyWhenMatched :
    (st 0x80 0x02 false [] []).cfg = defaultConfig ∧
      (st 0x80 0x02 false [] []).key
          (transactionWord (instrTransaction (.rdRam1W1 (acc 0 [.blk1] 0)))) &&&
        (Instr.rdRam1W1 (acc 0 [.blk1] 0)).row.mask ≠
        (Instr.rdRam1W1 (acc 0 [.blk1] 0)).row.pattern := by decide

theorem witness_NoStepFails_quiet :
    quiet (queued (st 0x80 0x1F false [] []) [.rd 0x0000 [.blk1] none])
        (acc 0x0000 [.blk1] 0xFF) = true ∧
      twTransaction (assemble (.rd 0x0000 [.blk1] none)) = .read (acc 0x0000 [.blk1] 0xFF) ∧
      twTransaction (assemble (.wr 0x0000 [.blk1] 0x55)) = .write (acc 0x0000 [.blk1] 0x55) ∧
      stepThen (queued (st 0x80 0x1F false [] []) [.rd 0x0000 [.blk1] none])
        (fun t => t.out == undriven) = true := by decide

theorem witness_StepRunsDecodedInstruction :
    (queued (st 0x62 0x00 false [] []) [.rd 0x0007 [.blk1] none]).pending = [0x0080007FF] ∧
      signalsAsserted (twAccess 0x0080007FF).sel = 1 ∧
      decodeRows defaultConfig (keyView ((st 0x62 0x00 false [] []).key 0x0080007FF)) =
        [.rdRamRomW1S1 (acc 0x0007 [.blk1] 0xFF)] := by decide

theorem witness_StepRunsDecodedInstruction_reset :
    (0x7FFFFFFFF : TW).getLsbD 34 = true ∧
      decodeRows defaultConfig (keyView ((st 0x62 0x00 false [] []).key 0x7FFFFFFFF)) = [.reset] := by
  decide

theorem witness_StepRunsDecodedInstruction_none :
    signalsAsserted (twAccess (assemble (.rd 0x0000 [.blk1] none))).sel = 1 ∧
      decodeRows defaultConfig
        (keyView ((st 0x80 0x02 false [] []).key (assemble (.rd 0x0000 [.blk1] none)))) = [] := by
  decide

theorem witness_StepFollowsProcedures :
    storesWf (queued (st 0xA0 0x00 false [(0x40, 1)] [(0x41, 2)])
      [.wr 0x0040 [.ram1, .ram2, .blk1, .io3] 0x00]) = true := by decide

theorem witness_StepKeepsInvariant :
    inv (queued (st 0x00 0x00 false [(0x7FFFF, 1)] []) [.wr 0x1C02 [.io3] 0x80]) = true ∧
      stepThen (queued (st 0x00 0x00 false [(0x7FFFF, 1)] []) [.wr 0x1C02 [.io3] 0x80])
        (fun t => t.mode == .ram1) = true := by decide

theorem witness_LatchClearOutsideStartOnRuns :
    configWf State.reset.cfg = true ∧
      runThen 2 (queued State.reset [.wr 0x0000 [.blk5] 0x00, .wr 0x1C02 [.io3] 0x80])
        (fun t => t.mode != .start) = true := by decide

theorem witness_UnusedEndsOnlyAtReset :
    (st 0xFF 0x00 false [] []).mode = .unused ∧
      (queued (st 0xFF 0x00 false [] []) [.wr 0x1C02 [.io3] 0, .rd 0x1C02 [.io3] none]).pending.all
        notReset = true ∧
      runThen 1 (queued (st 0xFF 0x00 false [] []) [.wr 0x1C02 [.io3] 0, .rd 0x1C02 [.io3] none])
        (fun t => t.pending == [assemble (.rd 0x1C02 [.io3] none)]) = true := by decide

theorem witness_HiddenRegistersStayHidden :
    (st 0x80 0x80 false [] []).mode ≠ .start ∧ (st 0x80 0x80 false [] []).vis .reg = false ∧
      (queued (st 0x80 0x80 false [] []) [.wr 0x1C03 [.io3] 0]).pending.all notReset = true ∧
      runThen 1 (queued (st 0x80 0x80 false [] []) [.wr 0x1C03 [.io3] 0]) (fun _ => true) = true := by
  decide

theorem witness_LockedHiddenStartIsStuck :
    (st 0x00 0x10 true [] []).mode = .start ∧ (st 0x00 0x10 true [] []).vis (.win .w5) = false ∧
      (st 0x00 0x10 true [] []).cfg.startW5VisGated = true ∧
      (queued (st 0x00 0x10 true [] []) [.wr 0x1C03 [.blk5, .io3] 0]).pending.all notReset = true ∧
      runThen 1 (queued (st 0x00 0x10 true [] []) [.wr 0x1C03 [.blk5, .io3] 0])
        (fun _ => true) = true := by decide

theorem witness_LatchChangesOnlyInStart :
    stepThen (queued State.reset [.wr 0x0000 [.blk5] 0x42]) (fun t => !t.latch) = true ∧
      stepThen (queued (st 0x00 0x00 false [] []) [.rd 0x0000 [.blk5] none]) (fun t => t.latch) = true ∧
      stepThen (queued (st 0x80 0x00 false [] []) [.rst]) (fun t => t.latch) = true := by decide

theorem witness_ReadChangesNoRegisterAndNoRam :
    twTransaction (assemble (.rd 0x0000 [.blk2] none)) = .read (acc 0x0000 [.blk2] 0xFF) ∧
      stepThen (queued (st 0x80 0x02 false [] []) [.rd 0x0000 [.blk2] none])
        (fun t => t.out == driven 0x00) = true := by decide

theorem witness_WriteEffectsAreConfined :
    twTransaction (assemble (.wr 0x1C03 [.blk3, .io3] 0x80)) =
        .write (acc 0x1C03 [.blk3, .io3] 0x80) ∧
      stepThen (queued (st 0x80 0x00 false [] []) [.wr 0x1C03 [.blk3, .io3] 0x80])
        (fun t => t.v != 0x00 && memRead t.ram 0x0DC03 != 0x00) = true := by decide

theorem witness_WriteEffectsAreConfined_start_and_window0 :
    stepThen (queued (st 0x00 0x00 true [] []) [.wr 0x1FFF [.blk5] 0x42])
        (fun t => memRead t.ram 0x0FFFF != 0x00) = true ∧
      stepThen (queued (st 0x80 0x00 false [] []) [.wr 0x0000 [.ram1, .ram3] 0x42])
        (fun t => memRead t.ram 0x00000 != 0x00) = true ∧
      stepThen (queued (st 0x00 0x00 true [] []) [.wr 0x1C02 [.blk5, .io3] 0x80])
        (fun t => t.m != 0x00) = true := by decide

theorem witness_QuietAccessChangesNothing :
    quiet (st 0x00 0x00 true [] []) (acc 0xFFFF [.ram1, .blk1, .blk2, .blk3, .io3] 0xFF) = true ∧
      selectedRegions (acc 0xFFFF [.io2] 0xFF) = 0 ∧
      selectsOnly (acc 0x1C00 [.io3] 0xFF) .reg = true ∧
      (acc 0x1C00 [.io3] 0xFF).off &&& 0x1C02 ≠ 0x1C02 ∧ (st 0xE0 0x00 false [] []).mode = .unused ∧
      (st 0x00 0x00 false [] []).mode = .start ∧ (acc 0 [.ram1, .blk1] 0).sel.blk5 = false ∧
      (acc 0 [.ram1, .blk1] 0).sel.io3 = false := by decide

theorem witness_HiddenWindowsDoNothing :
    selectsOnly (acc 0x0000 [.ram1, .ram3] 0xFF) .w0 = true ∧
      selectsOnly (acc 0x0000 [.blk1] 0xFF) (.win .w1) = true ∧
      selectsOnly (acc 0x0000 [.blk2] 0xFF) (.win .w2) = true ∧
      selectsOnly (acc 0x0000 [.blk3] 0xFF) (.win .w3) = true ∧
      selectsOnly (acc 0x1FFF [.blk5] 0xFF) (.win .w5) = true ∧
      [0, 1, 2, 3, 4].all (fun i => (st 0x80 0x1F false [] []).v.getLsbD i) = true := by decide

theorem witness_SuperRamRoundTrip :
    storesWf (queued (st 0xA5 0x60 false [] [])
        [.wr 0x0123 [.blk2] 0x5A, .rd 0x2123 [.blk2] none]) = true ∧
      (st 0xA5 0x60 false [] []).mode = .superRam ∧ (st 0xA5 0x60 false [] []).vis (.win .w2) = true ∧
      selectsOnly (acc 0x0123 [.blk2] 0x5A) (.win .w2) = true ∧
      off13 (acc 0x0123 [.blk2] 0x5A) = off13 (acc 0x2123 [.blk2] 0xFF) ∧
      (st 0xA5 0x60 false [] []).cfg.regSignal = .io3 := by decide

theorem witness_UnlockOpensTheRegisters :
    (st 0x00 0x8F false [] []).mode = .start ∧
      startW5Open (st 0x00 0x8F false [] []).cfg (st 0x00 0x8F false [] []).v = true ∧
      selectsOnly (acc 0x1C02 [.io3] 0xFF) .reg = true ∧ regMatch (acc 0x1C02 [.io3] 0xFF) = true ∧
      regMatch (acc 0xFFFF [.io3] 0xFF) = true := by decide

theorem witness_LockedStartRevealsOnlyRom :
    (st 0x1F 0x60 true [(0, 1)] []).mode = .start ∧ (st 0x00 0xEF true [] []).mode = .start ∧
      swapField (st 0x1F 0x60 true [(0, 1)] []).v = swapField (st 0x00 0xEF true [] []).v ∧
      (st 0x1F 0x60 true [(0, 1)] []).vis (.win .w5) = (st 0x00 0xEF true [] []).vis (.win .w5) ∧
      stepThen (queued (st 0x1F 0x60 true [(0, 1)] []) [.rd 0x1C02 [.blk5, .io3] none])
        (fun t => t.out == driven 0x00) = true ∧
      stepThen (queued (st 0x00 0xEF true [] []) [.rd 0x1C02 [.blk5, .io3] none])
        (fun t => t.out == driven 0x00) = true := by decide

theorem witness_ExclusiveWriteTouchesOnePlace :
    exclusive (acc 0x0010 [.blk2] 0xAB) = true ∧ exclusive (acc 0x1C02 [.io3] 0xAB) = true ∧
      (st 0xC4 0x00 false [] []).cfg.regSignal = .io3 ∧
      stepThen (queued (st 0xC4 0x00 false [] []) [.wr 0x0010 [.blk2] 0xAB])
        (fun t => t.ram != []) = true ∧
      stepThen (queued (st 0x21 0x00 false [] []) [.wr 0x0010 [.blk2] 0xAB])
        (fun t => t.rom != .byteArray []) = true ∧
      stepThen (queued (st 0xC4 0x00 false [] []) [.wr 0x1C02 [.io3] 0xAB])
        (fun t => t.m != 0xC4) = true ∧
      stepThen (queued (st 0xC4 0x00 false [] []) [.wr 0x1C03 [.io3] 0xAB])
        (fun t => t.v != 0x00) = true := by decide

theorem witness_RegisterWinsRead :
    (st 0xA0 0x00 false [] []).mode ≠ .start ∧
      (st 0xA0 0x00 false [] []).granted (acc 0x1C02 [.blk5, .io3] 0xFF) = true ∧
      (st 0x00 0x00 false [] []).mode = .start ∧
      startW5Open (st 0x00 0x00 false [] []).cfg (st 0x00 0x00 false [] []).v = true := by decide

theorem witness_StartWriteUnlocksRegisterWrite :
    memWf (st 0x00 0x00 true [] []).ram = true ∧ (st 0x00 0x00 true [] []).mode = .start ∧
      startW5Open (st 0x00 0x00 true [] []).cfg (st 0x00 0x00 true [] []).v = true ∧
      regSel (st 0x00 0x00 true [] []).cfg (acc 0x1C02 [.blk5, .io3] 0xA0) = true ∧
      (acc 0x1C02 [.blk5, .io3] 0xA0).sel.blk5 = true := by decide

theorem witness_HighOffsetBitsIgnored :
    twTransaction (assemble (.rd 0x0123 [.blk2] none)) = .read (acc 0x0123 [.blk2] 0xFF) ∧
      twTransaction (assemble (.rd 0xE123 [.blk2] none)) = .read (acc 0xE123 [.blk2] 0xFF) ∧
      (acc 0x0123 [.blk2] 0xFF).off &&& 0x1FFF = (acc 0xE123 [.blk2] 0xFF).off &&& 0x1FFF ∧
      twTransaction (assemble (.wr 0xE123 [.blk2] 1)) = .write (acc 0xE123 [.blk2] 1) := by decide

theorem witness_IgnoredSignalHasNoEffect :
    twTransaction (assemble (.rd 0x1C02 [.io3] none)) = .read (acc 0x1C02 [.io3] 0xFF) ∧
      twTransaction (assemble (.rd 0x1C02 [.io2, .io3] none)) =
        .read { acc 0x1C02 [.io3] 0xFF with sel := { (acc 0x1C02 [.io3] 0xFF).sel with io2 := true } } ∧
      twTransaction (assemble (.wr 0x1C02 [.io2, .io3] 1)) =
        .write { acc 0x1C02 [.io3] 1 with sel := { (acc 0x1C02 [.io3] 1).sel with io2 := true } } := by
  decide

theorem witness_StepServesTheQueue :
    stepThen State.reset (fun t => t == State.reset) = true ∧
      stepThen (queued (st 0x80 0 false [] []) [.rst, .rd 0 [.blk1] none])
        (fun t => t.pending == [assemble (.rd 0 [.blk1] none)]) = true := by decide

end Sys2Proof.Tests
end

/-! PROOFS. Scope and step contract (00_scope.md): every instruction, every slot and every step
answers a next state, keeps the parameters and serves exactly one transaction; an access that meets
no condition is carried out by no slot. -/

namespace Sys2Proof.Machine

/-! ### What every instruction keeps -/

/-- What every instruction leaves unchanged: the parameters and the driver's queue. -/
structure QueueFrame (s t : State) : Prop where
  cfg     : t.cfg = s.cfg
  pending : t.pending = s.pending

@[simp] theorem QueueFrame.refl (s : State) : QueueFrame s s :=
  ⟨rfl, rfl⟩

theorem QueueFrame.trans {s t u : State} (h : QueueFrame s t) (k : QueueFrame t u) :
    QueueFrame s u :=
  ⟨k.cfg.trans h.cfg, k.pending.trans h.pending⟩

theorem ReadFrame.queueFrame {s t : State} (h : ReadFrame s t) : QueueFrame s t :=
  ⟨h.cfg, h.pending⟩

theorem StoreFrame.queueFrame {s t : State} (h : StoreFrame s t) : QueueFrame s t :=
  ⟨h.cfg, h.pending⟩

@[simp] theorem resetRegisters_queueFrame (s : State) : QueueFrame s s.resetRegisters :=
  ⟨rfl, rfl⟩

@[simp] theorem readW0_queueFrame (s : State) (md : Mode) (asserted : Bool) (a : Access) :
    QueueFrame s (s.readW0 md asserted a) :=
  (readW0_frame s md asserted a).queueFrame

@[simp] theorem readWindow_queueFrame (s : State) (md : Mode) (w : Window) (st : Store)
    (bank : BitVec 7) (a : Access) : QueueFrame s (s.readWindow md w st bank a) :=
  (readWindow_frame s md w st bank a).queueFrame

@[simp] theorem readWindowSel_queueFrame (s : State) (md : Mode) (w : Window) (bit : Bool)
    (st : Store) (bank : BitVec 7) (a : Access) :
    QueueFrame s (s.readWindowSel md w bit st bank a) :=
  (readWindowSel_frame s md w bit st bank a).queueFrame

@[simp] theorem readReg_queueFrame (s : State) (md : Mode) (second : Bool) (a : Access) :
    QueueFrame s (s.readReg md second a) :=
  (readReg_frame s md second a).queueFrame

@[simp] theorem writeW0_queueFrame (s : State) (md : Mode) (asserted : Bool) (a : Access) :
    QueueFrame s (s.writeW0 md asserted a) :=
  (writeW0_frame s md asserted a).queueFrame

@[simp] theorem writeWindow_queueFrame (s : State) (md : Mode) (w : Window) (st : Store)
    (bank : BitVec 7) (a : Access) : QueueFrame s (s.writeWindow md w st bank a) :=
  (writeWindow_frame s md w st bank a).queueFrame

@[simp] theorem writeWindowSel_queueFrame (s : State) (md : Mode) (w : Window) (bit : Bool)
    (st : Store) (bank : BitVec 7) (a : Access) :
    QueueFrame s (s.writeWindowSel md w bit st bank a) :=
  (writeWindowSel_frame s md w bit st bank a).queueFrame

@[simp] theorem writeReg_queueFrame (s : State) (md : Mode) (second : Bool) (a : Access) :
    QueueFrame s (s.writeReg md second a) := by
  obtain ⟨-, -, -, hcfg, hpending, -⟩ := writeReg_frame s md second a
  exact ⟨hcfg, hpending⟩

/-- Window 5 of START read (R92): it completes, and the lock is no part of the frame. -/
theorem execRdStartW5_next (a : Access) (s : State) :
    ∃ t, exec (.rdStartW5 a) s = .next t ∧ QueueFrame s t := by
  refine ⟨_, rfl, ?_⟩
  split
  · exact ⟨rfl, rfl⟩
  · exact .refl s

/-- Window 5 of START written (R122): it completes, and the unlock is no part of the frame. -/
theorem execWrStartW5_next (a : Access) (s : State) :
    ∃ t, exec (.wrStartW5 a) s = .next t ∧ QueueFrame s t := by
  refine ⟨_, rfl, ?_⟩
  split
  · exact ⟨rfl, rfl⟩
  · exact .refl s

/-- Every instruction has a meaning that completes, from every state (R5, R150), and none touches
the parameters or the queue: each arm but window 5 of START is one shared operation, whose frame is
known. -/
theorem exec_next (i : Instr) (s : State) : ∃ t, exec i s = .next t ∧ QueueFrame s t := by
  cases i
  case rdStartW5 a => exact execRdStartW5_next a s
  case wrStartW5 a => exact execWrStartW5_next a s
  all_goals exact ⟨_, rfl, by simp⟩

/-! ### The loop over the slots, and the step -/

/-- Trying the rows of any slots completes, whatever fires on the way. -/
theorem runSlots_next (t : TW) (slots : List Slot) (s : State) :
    ∃ u, runSlots t slots s = .next u ∧ QueueFrame s u := by
  induction slots generalizing s with
  | nil => exact ⟨s, runSlots_nil t s, .refl s⟩
  | cons slot slots ih =>
    cases hd : decodeSlot s.cfg slot (keyView (s.key t)) with
    | none => rw [runSlots_none hd]; exact ih s
    | some i =>
      obtain ⟨s', hx, hs'⟩ := exec_next i s
      obtain ⟨u, hu, hframe⟩ := ih s'
      exact ⟨u, (runSlots_some hd hx).trans hu, hs'.trans hframe⟩

/-- A step with a word at the head of the queue completes, takes that word off and keeps the
parameters. -/
theorem step_next {s : State} {w : TW} {rest : List TW} (h : s.pending = w :: rest) :
    ∃ t, step s = .next t ∧ t.cfg = s.cfg ∧ t.pending = rest := by
  obtain ⟨t, ht, hframe⟩ := runSlots_next w Slot.inOrder (s.begin w rest)
  exact ⟨t, (step_transact h).trans ht, hframe.cfg, hframe.pending⟩

/-! ### A quiet access -/

theorem bit34_of_ne_reset {t : TW} (ht : twTransaction t ≠ .reset) : t.getLsbD 34 = false :=
  Bool.eq_false_iff.mpr fun h => ht (if_pos h)

/-- In START an access can meet window 5's condition or the register port's, and no other. -/
theorem quiet_start_iff {s : State} {a : Access} (h : s.mode = .start) :
    quiet s a = true ↔
      (a.sel.blk5 && startW5Open s.cfg s.v) = false ∧ s.granted a = false := by
  simp only [quiet, h, Bool.and_eq_true, Bool.not_eq_true']

/-- Outside START and UNUSED an access can meet the conditions of window 0, of the four windows and
of the register port. -/
theorem quiet_routed_iff {s : State} {a : Access} (h1 : s.mode ≠ .start) (h2 : s.mode ≠ .unused) :
    quiet s a = true ↔
      (selectsW0 a && s.vis .w0) = false ∧
        (∀ w, (selectsWindow a w && s.vis (.win w)) = false) ∧ s.granted a = false := by
  have windows : (∀ w, (selectsWindow a w && s.vis (.win w)) = false) ↔
      (a.sel.blk1 && s.vis (.win .w1)) = false ∧ (a.sel.blk2 && s.vis (.win .w2)) = false ∧
        (a.sel.blk3 && s.vis (.win .w3)) = false ∧ (a.sel.blk5 && s.vis (.win .w5)) = false :=
    ⟨fun h => ⟨h .w1, h .w2, h .w3, h .w5⟩, fun ⟨hw1, hw2, hw3, hw5⟩ w => by
      cases w <;> assumption⟩
  rw [windows]
  simp only [quiet, Bool.and_eq_true, Bool.not_eq_true', and_assoc]

/-- Every slot passes over a quiet READ. -/
theorem runSlots_quiet_read {t : TW} {a : Access} (ht : twTransaction t = .read a) {s : State}
    (hq : quiet s a = true) : runSlots t Slot.inOrder s = .next s := by
  have h34 : t.getLsbD 34 = false := bit34_of_ne_reset (by simp [ht])
  by_cases h1 : s.mode = .start
  · obtain ⟨hw5, hreg⟩ := (quiet_start_iff h1).mp hq
    have offW5 : s.stmtReadStartW5 a = s := by simp [State.stmtReadStartW5, hw5]
    have offReg : s.stmtReadReg a = s := by simp [State.stmtReadReg, hreg]
    rw [Slot.inOrder, runSlots_lead h34, runSlots_readStart ht h1, runSlots_readStartW5 ht h1,
      offW5, runSlots_readReg ht, offReg, runSlots_nil]
  by_cases h2 : s.mode = .unused
  · exact runSlots_unused h34 h2
  · obtain ⟨hw0, hw, hreg⟩ := (quiet_routed_iff h1 h2).mp hq
    have offW0 : s.stmtReadW0 a = s := by simp [State.stmtReadW0, hw0]
    have offReg : s.stmtReadReg a = s := by simp [State.stmtReadReg, hreg]
    have skip (w : Window) (slots : List Slot) :
        runSlots t (slotOf w :: slots) s = runSlots t slots s := by
      rw [runSlots_readWindow ht h1 h2, State.stmtReadWindow, hw w, if_neg Bool.false_ne_true]
    rw [Slot.inOrder, runSlots_lead h34, runSlots_readW0 ht h1 h2, offW0]
    exact (skip .w1 _).trans <| (skip .w2 _).trans <| (skip .w3 _).trans <| (skip .w5 _).trans <| by
      rw [runSlots_readReg ht, offReg, runSlots_nil]

/-- Every slot passes over a quiet WRITE. The three slots of window 0 are taken one by one, so that
the stores need not be canonical. -/
theorem runSlots_quiet_write {t : TW} {a : Access} (ht : twTransaction t = .write a) {s : State}
    (hq : quiet s a = true) : runSlots t Slot.inOrder s = .next s := by
  have h34 : t.getLsbD 34 = false := bit34_of_ne_reset (by simp [ht])
  by_cases h1 : s.mode = .start
  · obtain ⟨hw5, hreg⟩ := (quiet_start_iff h1).mp hq
    have offW5 : s.stmtWriteStartW5 a = s := by simp [State.stmtWriteStartW5, hw5]
    have offReg : s.stmtWriteReg a = s := by simp [State.stmtWriteReg, hreg]
    rw [Slot.inOrder, runSlots_lead h34, runSlots_writeStart ht h1, runSlots_writeStartW5 ht h1,
      offW5, runSlots_writeReg ht, offReg, runSlots_nil]
  by_cases h2 : s.mode = .unused
  · exact runSlots_unused h34 h2
  · obtain ⟨hw0, hw, hreg⟩ := (quiet_routed_iff h1 h2).mp hq
    have offReg : s.stmtWriteReg a = s := by simp [State.stmtWriteReg, hreg]
    obtain ⟨hram1, hram2, hram3⟩ : (a.sel.ram1 && s.vis .w0) = false ∧
        (a.sel.ram2 && s.vis .w0) = false ∧ (a.sel.ram3 && s.vis .w0) = false := by
      simpa [selectsW0, Bool.and_or_distrib_right, and_assoc] using hw0
    have skip (w : Window) (slots : List Slot) :
        runSlots t (slotOf w :: slots) s = runSlots t slots s := by
      rw [runSlots_writeWindow ht h1 h2, State.stmtWriteWindow, hw w, if_neg Bool.false_ne_true]
    rw [Slot.inOrder, runSlots_lead h34,
      runSlots_writeRam ht h1 h2 (.inl ⟨rfl, rfl⟩), hram1, if_neg Bool.false_ne_true,
      runSlots_writeRam ht h1 h2 (.inr (.inl ⟨rfl, rfl⟩)), hram2, if_neg Bool.false_ne_true,
      runSlots_writeRam ht h1 h2 (.inr (.inr ⟨rfl, rfl⟩)), hram3, if_neg Bool.false_ne_true]
    exact (skip .w1 _).trans <| (skip .w2 _).trans <| (skip .w3 _).trans <| (skip .w5 _).trans <| by
      rw [runSlots_writeReg ht, offReg, runSlots_nil]

/-- The step that answers a quiet READ ends in the state in which the operation began. -/
theorem step_quiet_read {s : State} {w : TW} {rest : List TW} {a : Access}
    (h : s.pending = w :: rest) (hw : twTransaction w = .read a) (hq : quiet s a = true) :
    step s = .next (s.begin w rest) :=
  (step_transact h).trans (runSlots_quiet_read hw (s := s.begin w rest) hq)

/-- The step that answers a quiet WRITE ends in the state in which the operation began. -/
theorem step_quiet_write {s : State} {w : TW} {rest : List TW} {a : Access}
    (h : s.pending = w :: rest) (hw : twTransaction w = .write a) (hq : quiet s a = true) :
    step s = .next (s.begin w rest) :=
  (step_transact h).trans (runSlots_quiet_write hw (s := s.begin w rest) hq)

/-! ### The obligations -/

/-- Settles O38: every step completes (`step_next`), and a quiet access leaves the state in which
it began, whose `out` is `d_in` undriven for a READ and whose stores are untouched. -/
theorem noStepFails : Obligations.NoStepFails := by
  refine ⟨fun s => ?_, fun s t w rest a hp hq hstep => ⟨fun hw => ?_, fun hw => ?_⟩⟩
  · cases hp : s.pending with
    | nil => exact ⟨s, step_idle hp⟩
    | cons w rest =>
      obtain ⟨t, ht, -⟩ := step_next hp
      exact ⟨t, ht⟩
  · cases (step_quiet_read hp hw hq).symm.trans hstep
    rw [State.begin_out, hw, initialOut]
  · cases (step_quiet_write hp hw hq).symm.trans hstep
    exact ⟨State.begin_ram s w rest, State.begin_rom s w rest⟩

/-- Settles O60, by the two cases of the queue: `step_idle` and `step_next`. -/
theorem stepServesTheQueue : Obligations.StepServesTheQueue := by
  intro s t hstep
  cases hp : s.pending with
  | nil =>
    cases (step_idle hp).symm.trans hstep
    exact ⟨rfl, fun _ => rfl, nofun⟩
  | cons w rest =>
    obtain ⟨u, hu, hcfg, hpending⟩ := step_next hp
    cases hu.symm.trans hstep
    refine ⟨hcfg, nofun, fun w' rest' h => ?_⟩
    obtain ⟨-, rfl⟩ := List.cons.inj h
    exact hpending

end Sys2Proof.Machine

/-! PROOFS. The state (10_state.md): what a step does to it, statement by statement, whatever the
stores hold; the invariant of R24 along every run; the latch (R19); the place a WRITE changes (R23);
the register fields and the values after RESET (R12 to R16, R27). -/

namespace Sys2Proof.Machine

/-! ### The step, statement by statement -/

/-- One of the three slots of window 0 in a WRITE (R124). -/
def State.stmtWriteRam (asserted : Bool) (a : Access) (s : State) : State :=
  if asserted && s.vis .w0 then s.storeTo .ram (s.addr 0 0 a) a.data else s

/-- WRITE (R120) as the slots carry it out, one after the other: `State.writeProcedure` with window 0
written once for each of its signals, so that nothing is asked of the stores. -/
def State.writeSlots (s : State) (a : Access) : State :=
  match s.mode with
  | .start  => (s.stmtWriteStartW5 a).stmtWriteReg a
  | .unused => s
  | _       =>
    (((((((s.stmtWriteRam a.sel.ram1 a).stmtWriteRam a.sel.ram2 a).stmtWriteRam a.sel.ram3
      a).stmtWriteWindow .w1 a).stmtWriteWindow .w2 a).stmtWriteWindow .w3 a).stmtWriteWindow
      .w5 a).stmtWriteReg a

theorem readProcedure_start {s : State} (h : s.mode = .start) (a : Access) :
    s.readProcedure a = (s.stmtReadStartW5 a).stmtReadReg a := by
  simp only [State.readProcedure, h]

theorem readProcedure_unused {s : State} (h : s.mode = .unused) (a : Access) :
    s.readProcedure a = s := by
  simp only [State.readProcedure, h]

theorem readProcedure_routed {s : State} (h1 : s.mode ≠ .start) (h2 : s.mode ≠ .unused)
    (a : Access) :
    s.readProcedure a =
      (((((s.stmtReadW0 a).stmtReadWindow .w1 a).stmtReadWindow .w2 a).stmtReadWindow .w3
        a).stmtReadWindow .w5 a).stmtReadReg a := by
  cases h : s.mode
  case start => exact absurd h h1
  case unused => exact absurd h h2
  all_goals simp only [State.readProcedure, h]

theorem writeSlots_start {s : State} (h : s.mode = .start) (a : Access) :
    s.writeSlots a = (s.stmtWriteStartW5 a).stmtWriteReg a := by
  simp only [State.writeSlots, h]

theorem writeSlots_unused {s : State} (h : s.mode = .unused) (a : Access) :
    s.writeSlots a = s := by
  simp only [State.writeSlots, h]

theorem writeSlots_routed {s : State} (h1 : s.mode ≠ .start) (h2 : s.mode ≠ .unused)
    (a : Access) :
    s.writeSlots a =
      (((((((s.stmtWriteRam a.sel.ram1 a).stmtWriteRam a.sel.ram2 a).stmtWriteRam a.sel.ram3
        a).stmtWriteWindow .w1 a).stmtWriteWindow .w2 a).stmtWriteWindow .w3 a).stmtWriteWindow
        .w5 a).stmtWriteReg a := by
  cases h : s.mode
  case start => exact absurd h h1
  case unused => exact absurd h h2
  all_goals simp only [State.writeSlots, h]

@[simp] theorem stmtWriteRam_mode (s : State) (asserted : Bool) (a : Access) :
    (s.stmtWriteRam asserted a).mode = s.mode := by
  unfold State.stmtWriteRam; split <;> rfl

/-- RESET fires its own row and no other (R165, R54). -/
theorem runSlots_reset {t : TW} (ht : twTransaction t = .reset) (s : State) :
    runSlots t Slot.inOrder s = .next s.resetRegisters := by
  have fires (u : State) (slot : Slot) : decodeSlot u.cfg slot (keyView (u.key t)) =
      if slot = .rst then some .reset else none := by
    rw [keyView_key, ht]; rfl
  rw [Slot.inOrder, runSlots_some (fires s .rst) rfl]
  simp only [runSlots, fires, reduceCtorEq, if_false]

/-- The slots of a READ carry out the READ procedure (R90). -/
theorem runSlots_read {t : TW} {a : Access} (ht : twTransaction t = .read a) (s : State) :
    runSlots t Slot.inOrder s = .next (s.readProcedure a) := by
  have h34 : t.getLsbD 34 = false := bit34_of_ne_reset (by simp [ht])
  by_cases h1 : s.mode = .start
  · rw [readProcedure_start h1, Slot.inOrder, runSlots_lead h34, runSlots_readStart ht h1,
      runSlots_readStartW5 ht h1, runSlots_readReg ht, runSlots_nil]
  by_cases h2 : s.mode = .unused
  · rw [readProcedure_unused h2, runSlots_unused h34 h2]
  · have window (u : State) (hu : u.mode = s.mode) (w : Window) (slots : List Slot) :
        runSlots t (slotOf w :: slots) u = runSlots t slots (u.stmtReadWindow w a) :=
      runSlots_readWindow ht (hu ▸ h1) (hu ▸ h2) w slots
    rw [readProcedure_routed h1 h2, Slot.inOrder, runSlots_lead h34, runSlots_readW0 ht h1 h2]
    exact (window _ (by simp) .w1 _).trans <| (window _ (by simp) .w2 _).trans <|
      (window _ (by simp) .w3 _).trans <| (window _ (by simp) .w5 _).trans <| by
        rw [runSlots_readReg ht, runSlots_nil]

/-- The slots of a WRITE carry out their statements in order (R120), whatever the stores hold. -/
theorem runSlots_write {t : TW} {a : Access} (ht : twTransaction t = .write a) (s : State) :
    runSlots t Slot.inOrder s = .next (s.writeSlots a) := by
  have h34 : t.getLsbD 34 = false := bit34_of_ne_reset (by simp [ht])
  by_cases h1 : s.mode = .start
  · rw [writeSlots_start h1, Slot.inOrder, runSlots_lead h34, runSlots_writeStart ht h1,
      runSlots_writeStartW5 ht h1, runSlots_writeReg ht, runSlots_nil]
  by_cases h2 : s.mode = .unused
  · rw [writeSlots_unused h2, runSlots_unused h34 h2]
  · have ram (u : State) (hu : u.mode = s.mode) {slot : Slot} {asserted : Bool}
        (hslot : slot = .ram1 ∧ asserted = a.sel.ram1 ∨ slot = .ram2 ∧ asserted = a.sel.ram2 ∨
          slot = .ram3 ∧ asserted = a.sel.ram3) (slots : List Slot) :
        runSlots t (slot :: slots) u = runSlots t slots (u.stmtWriteRam asserted a) :=
      runSlots_writeRam ht (hu ▸ h1) (hu ▸ h2) hslot slots
    have window (u : State) (hu : u.mode = s.mode) (w : Window) (slots : List Slot) :
        runSlots t (slotOf w :: slots) u = runSlots t slots (u.stmtWriteWindow w a) :=
      runSlots_writeWindow ht (hu ▸ h1) (hu ▸ h2) w slots
    rw [writeSlots_routed h1 h2, Slot.inOrder, runSlots_lead h34, ram _ rfl (.inl ⟨rfl, rfl⟩),
      ram _ (by simp) (.inr (.inl ⟨rfl, rfl⟩)), ram _ (by simp) (.inr (.inr ⟨rfl, rfl⟩))]
    exact (window _ (by simp) .w1 _).trans <| (window _ (by simp) .w2 _).trans <|
      (window _ (by simp) .w3 _).trans <| (window _ (by simp) .w5 _).trans <| by
        rw [runSlots_writeReg ht, runSlots_nil]

theorem step_reset {s : State} {w : TW} {rest : List TW} (h : s.pending = w :: rest)
    (hw : twTransaction w = .reset) : step s = .next (s.begin w rest).resetRegisters :=
  (step_transact h).trans (runSlots_reset hw _)

theorem step_read {s : State} {w : TW} {rest : List TW} {a : Access} (h : s.pending = w :: rest)
    (hw : twTransaction w = .read a) : step s = .next ((s.begin w rest).readProcedure a) :=
  (step_transact h).trans (runSlots_read hw _)

theorem step_write {s : State} {w : TW} {rest : List TW} {a : Access} (h : s.pending = w :: rest)
    (hw : twTransaction w = .write a) : step s = .next ((s.begin w rest).writeSlots a) :=
  (step_transact h).trans (runSlots_write hw _)

/-! ### What each statement can do -/

theorem stmtReadW0_cases (s : State) (a : Access) :
    s.stmtReadW0 a = s.driveFrom .ram (s.addr 0 0 a) ∨ s.stmtReadW0 a = s :=
  ite_eq_or_eq _ _ _

theorem stmtReadWindow_cases (s : State) (w : Window) (a : Access) :
    (∃ st p, s.stmtReadWindow w a = s.driveFrom st p) ∨ s.stmtReadWindow w a = s := by
  unfold State.stmtReadWindow
  split
  · split
    · exact .inl ⟨_, _, rfl⟩
    · exact .inr rfl
  · exact .inr rfl

theorem stmtReadReg_cases (s : State) (a : Access) :
    s.stmtReadReg a = s.drive (s.reg (regNo a)) ∨ s.stmtReadReg a = s :=
  ite_eq_or_eq _ _ _

theorem stmtReadStartW5_cases (s : State) (a : Access) :
    s.stmtReadStartW5 a = (s.driveFrom .rom (s.addr 0 3 a)).lock ∨ s.stmtReadStartW5 a = s :=
  ite_eq_or_eq _ _ _

theorem stmtWriteRam_cases (s : State) (asserted : Bool) (a : Access) :
    s.stmtWriteRam asserted a = s.storeTo .ram (s.addr 0 0 a) a.data ∨
      s.stmtWriteRam asserted a = s :=
  ite_eq_or_eq _ _ _

theorem stmtWriteWindow_cases (s : State) (w : Window) (a : Access) :
    (∃ st p, s.stmtWriteWindow w a = s.storeTo st p a.data) ∨ s.stmtWriteWindow w a = s := by
  unfold State.stmtWriteWindow
  split
  · split
    · exact .inl ⟨_, _, rfl⟩
    · exact .inr rfl
  · exact .inr rfl

theorem stmtWriteStartW5_cases (s : State) (a : Access) :
    s.stmtWriteStartW5 a = (s.storeTo .ram (s.addr 1 3 a) a.data).unlock ∨
      s.stmtWriteStartW5 a = s :=
  ite_eq_or_eq _ _ _

/-- The only statement that changes a register, and it is granted when it does. -/
theorem stmtWriteReg_cases (s : State) (a : Access) :
    (s.granted a = true ∧ s.stmtWriteReg a = s.setReg (regNo a) a.data) ∨
      s.stmtWriteReg a = s := by
  by_cases h : s.granted a = true
  · exact .inl ⟨h, if_pos h⟩
  · exact .inr (if_neg h)

/-! ### Invariants of the step -/

/-- What makes a predicate an invariant of every step: the state in which an operation begins has
it, and so does the state after each thing that a statement can do; a register is only written when
granted, and only START's window 5 locks. -/
structure StepInvariant (P : State → Prop) : Prop where
  begin     : ∀ {s} t rest, P s → P (s.begin t rest)
  reset     : ∀ {s}, P s → P s.resetRegisters
  drive     : ∀ {s} b, P s → P (s.drive b)
  driveFrom : ∀ {s} st p, P s → P (s.driveFrom st p)
  lock      : ∀ {s}, s.mode = .start → P s → P s.lock
  storeTo   : ∀ {s} st p b, P s → P (s.storeTo st p b)
  unlock    : ∀ {s}, P s → P s.unlock
  setReg    : ∀ {s a} second b, s.granted a = true → P s → P (s.setReg second b)

namespace StepInvariant

variable {P : State → Prop}

theorem stmtReadW0 (hP : StepInvariant P) {s : State} (a : Access) (h : P s) :
    P (s.stmtReadW0 a) := by
  rcases stmtReadW0_cases s a with e | e <;> rw [e]
  · exact hP.driveFrom _ _ h
  · exact h

theorem stmtReadWindow (hP : StepInvariant P) {s : State} (w : Window) (a : Access) (h : P s) :
    P (s.stmtReadWindow w a) := by
  rcases stmtReadWindow_cases s w a with ⟨_, _, e⟩ | e <;> rw [e]
  · exact hP.driveFrom _ _ h
  · exact h

theorem stmtReadReg (hP : StepInvariant P) {s : State} (a : Access) (h : P s) :
    P (s.stmtReadReg a) := by
  rcases stmtReadReg_cases s a with e | e <;> rw [e]
  · exact hP.drive _ h
  · exact h

theorem stmtReadStartW5 (hP : StepInvariant P) {s : State} (a : Access) (hm : s.mode = .start)
    (h : P s) : P (s.stmtReadStartW5 a) := by
  rcases stmtReadStartW5_cases s a with e | e <;> rw [e]
  · exact hP.lock hm (hP.driveFrom _ _ h)
  · exact h

theorem stmtWriteRam (hP : StepInvariant P) {s : State} (asserted : Bool) (a : Access) (h : P s) :
    P (s.stmtWriteRam asserted a) := by
  rcases stmtWriteRam_cases s asserted a with e | e <;> rw [e]
  · exact hP.storeTo _ _ _ h
  · exact h

theorem stmtWriteWindow (hP : StepInvariant P) {s : State} (w : Window) (a : Access) (h : P s) :
    P (s.stmtWriteWindow w a) := by
  rcases stmtWriteWindow_cases s w a with ⟨_, _, e⟩ | e <;> rw [e]
  · exact hP.storeTo _ _ _ h
  · exact h

theorem stmtWriteStartW5 (hP : StepInvariant P) {s : State} (a : Access) (h : P s) :
    P (s.stmtWriteStartW5 a) := by
  rcases stmtWriteStartW5_cases s a with e | e <;> rw [e]
  · exact hP.unlock (hP.storeTo _ _ _ h)
  · exact h

theorem stmtWriteReg (hP : StepInvariant P) {s : State} (a : Access) (h : P s) :
    P (s.stmtWriteReg a) := by
  rcases stmtWriteReg_cases s a with ⟨hg, e⟩ | e <;> rw [e]
  · exact hP.setReg _ _ hg h
  · exact h

theorem readProcedure (hP : StepInvariant P) {s : State} (a : Access) (h : P s) :
    P (s.readProcedure a) := by
  by_cases h1 : s.mode = .start
  · rw [readProcedure_start h1]
    exact hP.stmtReadReg a (hP.stmtReadStartW5 a h1 h)
  by_cases h2 : s.mode = .unused
  · rwa [readProcedure_unused h2]
  · rw [readProcedure_routed h1 h2]
    exact hP.stmtReadReg a <| hP.stmtReadWindow _ a <| hP.stmtReadWindow _ a <|
      hP.stmtReadWindow _ a <| hP.stmtReadWindow _ a <| hP.stmtReadW0 a h

theorem writeSlots (hP : StepInvariant P) {s : State} (a : Access) (h : P s) :
    P (s.writeSlots a) := by
  by_cases h1 : s.mode = .start
  · rw [writeSlots_start h1]
    exact hP.stmtWriteReg a (hP.stmtWriteStartW5 a h)
  by_cases h2 : s.mode = .unused
  · rwa [writeSlots_unused h2]
  · rw [writeSlots_routed h1 h2]
    exact hP.stmtWriteReg a <| hP.stmtWriteWindow _ a <| hP.stmtWriteWindow _ a <|
      hP.stmtWriteWindow _ a <| hP.stmtWriteWindow _ a <| hP.stmtWriteRam _ a <|
      hP.stmtWriteRam _ a <| hP.stmtWriteRam _ a h

theorem step (hP : StepInvariant P) {s t : State} (h : P s) (hstep : step s = .next t) : P t := by
  cases hp : s.pending with
  | nil =>
    cases (step_idle hp).symm.trans hstep
    exact h
  | cons w rest =>
    have hbegin : P (s.begin w rest) := hP.begin w rest h
    cases hw : twTransaction w with
    | reset =>
      cases (step_reset hp hw).symm.trans hstep
      exact hP.reset hbegin
    | read a =>
      cases (step_read hp hw).symm.trans hstep
      exact hP.readProcedure a hbegin
    | write a =>
      cases (step_write hp hw).symm.trans hstep
      exact hP.writeSlots a hbegin

end StepInvariant

/-- A run of one step more is a step and the rest of the run. -/
theorem run_succ {n : Nat} {s t : State} (h : run (n + 1) s = .next t) :
    ∃ u, step s = .next u ∧ run n u = .next t := by
  obtain ⟨u, hu⟩ := noStepFails.1 s
  have hcore : core.step s = .next u := hu
  simp only [run, Host.Core.run, hcore] at h
  exact ⟨u, hu, h⟩

theorem StepInvariant.run {P : State → Prop} (hP : StepInvariant P) {n : Nat} {s t : State}
    (h : P s) (hrun : run n s = .next t) : P t := by
  induction n generalizing s with
  | zero => cases hrun; exact h
  | succ n ih =>
    obtain ⟨u, hu, hrest⟩ := run_succ hrun
    exact ih (hP.step h hu) hrest

/-! ### Canonical stores -/

theorem storesWf_stepInvariant : StepInvariant fun s => storesWf s = true where
  begin _ _ h := h
  reset h := h
  drive _ h := h
  driveFrom st p h := driveFrom_storesWf h st p
  lock _ h := h
  storeTo st p b h := storeTo_storesWf h st p b
  unlock h := h
  setReg second _ _ h := by cases second <;> exact h

/-! ### A clear latch outside START -/

/-- R24, with what it needs of the parameters: MODE_ENC decodes RESET's `M` as START. -/
structure LatchGated (s : State) : Prop where
  cfg   : configWf s.cfg = true
  clear : s.mode ≠ .start → s.latch = false

theorem inv_iff (s : State) : inv s = true ↔ LatchGated s ∧ storesWf s = true := by
  have clear : latchClearOutsideStart s = true ↔ (s.mode ≠ .start → s.latch = false) := by
    simp [latchClearOutsideStart, or_iff_not_imp_left]
  simp only [inv, Bool.and_eq_true, clear]
  exact ⟨fun ⟨⟨hc, hwf⟩, hl⟩ => ⟨⟨hc, hl⟩, hwf⟩, fun ⟨⟨hc, hl⟩, hwf⟩ => ⟨⟨hc, hwf⟩, hl⟩⟩

/-- MODE_ENC has START at 0 (R55), which is RESET's `M` at every MODE_POS. -/
theorem modeOf_resetM {c : Config} (hc : configWf c = true) : modeOf c resetM = .start := by
  have hstart : c.modeEnc.start = 0 := by
    simp only [configWf, ModeEnc.wf, Bool.and_eq_true, beq_iff_eq] at hc
    exact hc.1
  have hcode : modeCode c resetM = 0 := by simp [modeCode, resetM]
  rw [modeOf, modeOfCode, hcode, if_pos hstart.symm]

theorem regGate_start {c : Config} {m v : Byte} {latch : Bool} (hm : modeOf c m = .start) :
    regGate c m v latch = !latch := by
  simp only [regGate, hm]

/-- The gate of R82 in START asks for a clear latch, and outside START R24 has it clear. -/
theorem LatchGated.latch_of_granted {s : State} {a : Access} (h : LatchGated s)
    (hg : s.granted a = true) : s.latch = false := by
  by_cases hm : s.mode = .start
  · rw [State.granted, regGate_start hm, Bool.and_eq_true] at hg
    simpa using hg.2
  · exact h.clear hm

theorem latchGated_stepInvariant : StepInvariant LatchGated where
  begin _ _ h := ⟨h.cfg, h.clear⟩
  reset h := ⟨h.cfg, fun hm => absurd (modeOf_resetM h.cfg) hm⟩
  drive _ h := ⟨h.cfg, h.clear⟩
  driveFrom st _ h := by cases st <;> exact ⟨h.cfg, h.clear⟩
  lock hm h := ⟨h.cfg, fun hne => absurd hm hne⟩
  storeTo st _ _ h := by cases st <;> exact ⟨h.cfg, h.clear⟩
  unlock h := ⟨h.cfg, fun _ => rfl⟩
  setReg _ _ hg h := ⟨by simpa using h.cfg, fun _ => by simpa using h.latch_of_granted hg⟩

theorem latchGated_of_reset {s : State} (hc : configWf s.cfg = true) (hm : s.m = resetM) :
    LatchGated s :=
  ⟨hc, fun hne => absurd (by rw [State.mode, hm, modeOf_resetM hc]) hne⟩

/-! ### The latch after one transaction (R19) -/

@[simp] theorem stmtReadW0_latch (s : State) (a : Access) : (s.stmtReadW0 a).latch = s.latch := by
  rcases stmtReadW0_cases s a with e | e <;> simp [e]

@[simp] theorem stmtReadWindow_latch (s : State) (w : Window) (a : Access) :
    (s.stmtReadWindow w a).latch = s.latch := by
  rcases stmtReadWindow_cases s w a with ⟨_, _, e⟩ | e <;> simp [e]

@[simp] theorem stmtReadReg_latch (s : State) (a : Access) :
    (s.stmtReadReg a).latch = s.latch := by
  rcases stmtReadReg_cases s a with e | e <;> simp [e]

@[simp] theorem stmtWriteRam_latch (s : State) (asserted : Bool) (a : Access) :
    (s.stmtWriteRam asserted a).latch = s.latch := by
  rcases stmtWriteRam_cases s asserted a with e | e <;> simp [e]

@[simp] theorem stmtWriteWindow_latch (s : State) (w : Window) (a : Access) :
    (s.stmtWriteWindow w a).latch = s.latch := by
  rcases stmtWriteWindow_cases s w a with ⟨_, _, e⟩ | e <;> simp [e]

@[simp] theorem stmtWriteReg_latch (s : State) (a : Access) :
    (s.stmtWriteReg a).latch = s.latch := by
  rcases stmtWriteReg_cases s a with ⟨-, e⟩ | e <;> simp [e]

/-- START's window 5 locks when it is read (R92). -/
theorem stmtReadStartW5_latch (s : State) (a : Access) :
    (s.stmtReadStartW5 a).latch =
      if a.sel.blk5 = true ∧ startW5Open s.cfg s.v = true then true else s.latch := by
  simp only [State.stmtReadStartW5, Bool.and_eq_true, apply_ite State.latch, State.lock_latch]

/-- START's window 5 unlocks when it is written (R122). -/
theorem stmtWriteStartW5_latch (s : State) (a : Access) :
    (s.stmtWriteStartW5 a).latch =
      if a.sel.blk5 = true ∧ startW5Open s.cfg s.v = true then false else s.latch := by
  simp only [State.stmtWriteStartW5, Bool.and_eq_true, apply_ite State.latch, State.unlock_latch]

theorem readProcedure_latch (s : State) (a : Access) :
    (s.readProcedure a).latch =
      if s.mode = .start ∧ a.sel.blk5 = true ∧ startW5Open s.cfg s.v = true then true
      else s.latch := by
  by_cases h1 : s.mode = .start
  · simp only [readProcedure_start h1, stmtReadReg_latch, stmtReadStartW5_latch, h1, true_and]
  rw [if_neg fun h => h1 h.1]
  by_cases h2 : s.mode = .unused
  · rw [readProcedure_unused h2]
  · simp [readProcedure_routed h1 h2]

theorem writeSlots_latch (s : State) (a : Access) :
    (s.writeSlots a).latch =
      if s.mode = .start ∧ a.sel.blk5 = true ∧ startW5Open s.cfg s.v = true then false
      else s.latch := by
  by_cases h1 : s.mode = .start
  · simp only [writeSlots_start h1, stmtWriteReg_latch, stmtWriteStartW5_latch, h1, true_and]
  rw [if_neg fun h => h1 h.1]
  by_cases h2 : s.mode = .unused
  · rw [writeSlots_unused h2]
  · simp [writeSlots_routed h1 h2]

/-! ### The one place that an exclusive WRITE changes (R23) -/

/-- At most one of RAM, the external device, `M` and `V` differs. -/
inductive ChangesOnePlace (s t : State) : Prop
  | ram (rom : t.rom = s.rom) (m : t.m = s.m) (v : t.v = s.v)
  | rom (ram : t.ram = s.ram) (m : t.m = s.m) (v : t.v = s.v)
  | m (ram : t.ram = s.ram) (rom : t.rom = s.rom) (v : t.v = s.v)
  | v (ram : t.ram = s.ram) (rom : t.rom = s.rom) (m : t.m = s.m)

theorem ChangesOnePlace.refl (s : State) : ChangesOnePlace s s :=
  .ram rfl rfl rfl

theorem ChangesOnePlace.iff_others_unchanged (s t : State) :
    ChangesOnePlace s t ↔
      (t.ram ≠ s.ram → t.rom = s.rom ∧ t.m = s.m ∧ t.v = s.v) ∧
      (t.rom ≠ s.rom → t.ram = s.ram ∧ t.m = s.m ∧ t.v = s.v) ∧
      (t.m ≠ s.m → t.ram = s.ram ∧ t.rom = s.rom ∧ t.v = s.v) ∧
      (t.v ≠ s.v → t.ram = s.ram ∧ t.rom = s.rom ∧ t.m = s.m) := by
  constructor
  · rintro (⟨h, h', h''⟩ | ⟨h, h', h''⟩ | ⟨h, h', h''⟩ | ⟨h, h', h''⟩) <;> simp [h, h', h'']
  · rintro ⟨hram, hrom, hm, hv⟩
    by_cases e : t.ram = s.ram
    · by_cases e' : t.rom = s.rom
      · by_cases e'' : t.m = s.m
        · exact .v e e' e''
        · exact .m e e' (hm e'').2.2
      · exact .rom e (hrom e').2.1 (hrom e').2.2
    · obtain ⟨h, h', h''⟩ := hram e
      exact .ram h h' h''

/-- A store is one place, whichever it is. -/
theorem storeTo_changesOnePlace (s : State) (st : Store) (p : PhysAddr) (b : Byte) :
    ChangesOnePlace s (s.storeTo st p b) := by
  cases st
  · exact .ram rfl rfl rfl
  · exact .rom rfl rfl rfl

/-- A register is one place, whichever it is. -/
theorem setReg_changesOnePlace (s : State) (second : Bool) (b : Byte) :
    ChangesOnePlace s (s.setReg second b) := by
  cases second
  · exact .m rfl rfl rfl
  · exact .v rfl rfl rfl

theorem stmtWriteWindow_changesOnePlace (s : State) (w : Window) (a : Access) :
    ChangesOnePlace s (s.stmtWriteWindow w a) := by
  rcases stmtWriteWindow_cases s w a with ⟨st, p, e⟩ | e <;> rw [e]
  · exact storeTo_changesOnePlace s st p _
  · exact .refl s

theorem stmtWriteStartW5_changesOnePlace (s : State) (a : Access) :
    ChangesOnePlace s (s.stmtWriteStartW5 a) := by
  rcases stmtWriteStartW5_cases s a with e | e <;> rw [e]
  · exact .ram rfl rfl rfl
  · exact .refl s

theorem stmtWriteReg_changesOnePlace (s : State) (a : Access) :
    ChangesOnePlace s (s.stmtWriteReg a) := by
  rcases stmtWriteReg_cases s a with ⟨-, e⟩ | e <;> rw [e]
  · exact setReg_changesOnePlace s _ _
  · exact .refl s

@[simp] theorem stmtWriteRam_m (s : State) (asserted : Bool) (a : Access) :
    (s.stmtWriteRam asserted a).m = s.m := by
  rcases stmtWriteRam_cases s asserted a with e | e <;> simp [e]

@[simp] theorem stmtWriteRam_v (s : State) (asserted : Bool) (a : Access) :
    (s.stmtWriteRam asserted a).v = s.v := by
  rcases stmtWriteRam_cases s asserted a with e | e <;> simp [e]

@[simp] theorem stmtWriteRam_rom (s : State) (asserted : Bool) (a : Access) :
    (s.stmtWriteRam asserted a).rom = s.rom := by
  rcases stmtWriteRam_cases s asserted a with e | e <;> simp [e]

@[simp] theorem stmtWriteRam_cfg (s : State) (asserted : Bool) (a : Access) :
    (s.stmtWriteRam asserted a).cfg = s.cfg := by
  rcases stmtWriteRam_cases s asserted a with e | e <;> simp [e]

@[simp] theorem stmtWriteWindow_cfg (s : State) (w : Window) (a : Access) :
    (s.stmtWriteWindow w a).cfg = s.cfg := by
  rcases stmtWriteWindow_cases s w a with ⟨_, _, e⟩ | e <;> simp [e]

@[simp] theorem stmtWriteStartW5_cfg (s : State) (a : Access) :
    (s.stmtWriteStartW5 a).cfg = s.cfg := by
  rcases stmtWriteStartW5_cases s a with e | e <;> simp [e]

/-! A statement whose region is not selected does nothing. -/

theorem stmtWriteRam_unselected (s : State) (a : Access) :
    s.stmtWriteRam false a = s :=
  rfl

theorem stmtWriteWindow_unselected {a : Access} {w : Window} (h : selectsWindow a w = false)
    (s : State) : s.stmtWriteWindow w a = s := by
  simp [State.stmtWriteWindow, h]

theorem stmtWriteStartW5_unselected {a : Access} (h : selectsWindow a .w5 = false) (s : State) :
    s.stmtWriteStartW5 a = s := by
  have hblk5 : a.sel.blk5 = false := h
  simp [State.stmtWriteStartW5, hblk5]

theorem stmtWriteReg_unselected {s : State} {a : Access} (hc : s.cfg.regSignal = .io3)
    (h : a.sel.io3 = false) : s.stmtWriteReg a = s := by
  simp [State.stmtWriteReg, State.granted, regSel, selectsReg, hc, h]

/-- The condition under which an access selects a region (70_reset_and_hazards.md R175). -/
def selectsRegion (a : Access) : Region → Bool
  | .w0    => selectsW0 a
  | .win w => selectsWindow a w
  | .reg   => a.sel.io3

/-- Every region, in the order of R175. -/
def allRegions : List Region :=
  [.w0, .win .w1, .win .w2, .win .w3, .win .w5, .reg]

theorem mem_allRegions (r : Region) : r ∈ allRegions := by
  rcases r with _ | w | _
  · decide
  · cases w <;> decide
  · decide

theorem selectedRegions_eq_length (a : Access) :
    selectedRegions a = (allRegions.filter (selectsRegion a)).length := by
  have ite_eq_toNat (b : Bool) : (if b = true then 1 else 0) = b.toNat := by cases b <;> rfl
  simp only [← List.countP_eq_length_filter, allRegions, List.countP_cons, List.countP_nil,
    ite_eq_toNat]
  simp only [selectedRegions, selectsRegion, selectsWindow]
  omega

/-- All that an exclusive access selects lies in one region. -/
theorem exclusive_region {a : Access} (h : exclusive a = true) :
    ∃ r, ∀ r', r' ≠ r → selectsRegion a r' = false := by
  have hmem (r' : Region) (hr' : selectsRegion a r' = true) :
      r' ∈ allRegions.filter (selectsRegion a) :=
    List.mem_filter.mpr ⟨mem_allRegions r', hr'⟩
  rw [exclusive, decide_eq_true_eq, selectedRegions_eq_length] at h
  rcases e : allRegions.filter (selectsRegion a) with _ | ⟨r, _ | ⟨r₂, rest⟩⟩
  · refine ⟨.w0, fun r' _ => Bool.eq_false_iff.mpr fun hr' => ?_⟩
    simpa [e] using hmem r' hr'
  · refine ⟨r, fun r' hne => Bool.eq_false_iff.mpr fun hr' => hne ?_⟩
    simpa [e] using hmem r' hr'
  · simp [e] at h

/-- A WRITE that selects one region runs the statements of that region only. -/
theorem writeSlots_changesOnePlace {s : State} {a : Access} {r : Region}
    (hc : s.cfg.regSignal = .io3) (h : ∀ r', r' ≠ r → selectsRegion a r' = false) :
    ChangesOnePlace s (s.writeSlots a) := by
  have offW0 (hr : Region.w0 ≠ r) :
      a.sel.ram1 = false ∧ a.sel.ram2 = false ∧ a.sel.ram3 = false := by
    simpa [selectsRegion, selectsW0, and_assoc] using h .w0 hr
  have offWindow (w : Window) (hr : Region.win w ≠ r) (u : State) : u.stmtWriteWindow w a = u :=
    stmtWriteWindow_unselected (h (.win w) hr) u
  have offReg (hr : Region.reg ≠ r) (u : State) (hu : u.cfg = s.cfg) : u.stmtWriteReg a = u :=
    stmtWriteReg_unselected (hu ▸ hc) (h .reg hr)
  by_cases h1 : s.mode = .start
  · rw [writeSlots_start h1]
    by_cases hr : Region.reg = r
    · rw [stmtWriteStartW5_unselected (h (.win .w5) (by simp [← hr]))]
      exact stmtWriteReg_changesOnePlace s a
    · rw [offReg hr _ (by simp)]
      exact stmtWriteStartW5_changesOnePlace s a
  by_cases h2 : s.mode = .unused
  · rw [writeSlots_unused h2]
    exact .refl s
  rw [writeSlots_routed h1 h2]
  cases r with
  | w0 =>
    rw [offReg (by simp) _ (by simp)]
    simp only [offWindow _ (by simp)]
    exact .ram (by simp) (by simp) (by simp)
  | win w =>
    obtain ⟨hram1, hram2, hram3⟩ := offW0 (by simp)
    rw [hram1, hram2, hram3, offReg (by simp) _ (by simp)]
    cases w <;> simpa [offWindow, stmtWriteRam_unselected] using
      stmtWriteWindow_changesOnePlace s _ a
  | reg =>
    obtain ⟨hram1, hram2, hram3⟩ := offW0 (by simp)
    rw [hram1, hram2, hram3]
    simp only [stmtWriteRam_unselected, offWindow _ (by simp)]
    exact stmtWriteReg_changesOnePlace s a

/-! ### The fields of the registers (R12, R55) -/

/-- Masking with 0xE0 keeps the three bits of the default mode field. -/
theorem and_0xE0_eq_iff (m : Byte) (x : BitVec 3) :
    m &&& 0xE0 = x.setWidth 8 <<< 5 ↔ m.extractLsb' 5 3 = x := by
  have field : m &&& 0xE0 = (m.extractLsb' 5 3).setWidth 8 <<< 5 := by
    ext i hi
    interval_cases i <;> simp
  have injective : ∀ x y : BitVec 3, x.setWidth 8 <<< 5 = y.setWidth 8 <<< 5 → x = y := by decide
  rw [field]
  exact ⟨injective _ _, congrArg fun y : BitVec 3 => y.setWidth 8 <<< 5⟩

/-! ### The obligations -/

/-- Settles O41: both parts of the invariant are kept (`latchGated_stepInvariant`,
`storesWf_stepInvariant`). -/
theorem stepKeepsInvariant : Obligations.StepKeepsInvariant := by
  intro s t hs hstep
  obtain ⟨hlatch, hwf⟩ := (inv_iff s).mp hs
  exact (inv_iff t).mpr
    ⟨latchGated_stepInvariant.step hlatch hstep, storesWf_stepInvariant.step hwf hstep⟩

/-- Settles O43: RESET leaves mode START, so the latch may be set, and every step keeps R24, whatever
RAM holds. -/
theorem latchClearOutsideStartOnRuns : Obligations.LatchClearOutsideStartOnRuns := by
  intro s n t hc hm _ _ hrun
  exact (latchGated_stepInvariant.run (latchGated_of_reset hc hm) hrun).clear

/-- Settles O47: the latch after RESET, after the READ procedure and after the slots of a WRITE. -/
theorem latchChangesOnlyInStart : Obligations.LatchChangesOnlyInStart := by
  intro s t w rest hp hstep
  cases hw : twTransaction w with
  | reset =>
    cases (step_reset hp hw).symm.trans hstep
    exact State.resetRegisters_latch _
  | read a =>
    cases (step_read hp hw).symm.trans hstep
    exact readProcedure_latch _ a
  | write a =>
    cases (step_write hp hw).symm.trans hstep
    exact writeSlots_latch _ a

/-- Settles O55: all that the access selects lies in one region, whose statements change one
place. -/
theorem exclusiveWriteTouchesOnePlace : Obligations.ExclusiveWriteTouchesOnePlace := by
  intro s t w rest a hp hw hex hreg hstep
  cases (step_write hp hw).symm.trans hstep
  obtain ⟨r, hr⟩ := exclusive_region hex
  exact (ChangesOnePlace.iff_others_unchanged (s.begin w rest) _).mp
    (writeSlots_changesOnePlace hreg hr)

/-- Settles O6: the mode by `and_0xE0_eq_iff`, the other fields by their default positions. -/
theorem registerFieldDefaults : Obligations.RegisterFieldDefaults := by
  intro s hs
  refine ⟨?_, ?_, ?_⟩
  · have code (x : BitVec 3) := and_0xE0_eq_iff s.m x
    simp [State.mode, modeOf, modeOfCode, modeCode, hs, defaultConfig, defaultModeEnc, ← code]
  · have hlt : s.m.toNat % 16 < 128 := by omega
    simp [State.bank, bankField, Nat.mod_eq_of_lt hlt]
  · simp [State.sel, selectBit, State.vis, visible, visPos, WindowBits.pos, hs, defaultConfig]

/-- Settles O35, field by field. -/
theorem resetStateValues : Obligations.ResetStateValues := by
  refine ⟨rfl, rfl, rfl, by decide, fun r => ?_, fun _ => rfl, rfl, rfl, rfl, rfl⟩
  rcases r with _ | w | _
  · rfl
  · cases w <;> rfl
  · rfl

/-- Settles O42: RESET's `M` is mode START, and its stores are empty. -/
theorem resetMeetsInvariant : Obligations.ResetMeetsInvariant :=
  (inv_iff State.reset).mpr ⟨latchGated_of_reset (by decide) rfl, rfl⟩

end Sys2Proof.Machine

/-! PROOFS. Memory (20_memory.md): what a READ leaves unchanged and what it returns (R35); the round
trip of a byte through a window of SUPER_RAM (R39); the offset bits that no access examines (R31). -/

namespace Sys2Proof.Machine

/-! ### What a READ does -/

/-- What any part of a READ may do: it keeps `M`, `V`, RAM and the parameters, and either it drives a
byte or it touches neither the result nor the external device. The latch is left out, since window 5
of START locks (R92). -/
structure ReadEffect (s t : State) : Prop where
  m      : t.m = s.m
  v      : t.v = s.v
  ram    : t.ram = s.ram
  cfg    : t.cfg = s.cfg
  result : (∃ b, t.out = some { d := b, drv := true }) ∨ (t.out = s.out ∧ t.rom = s.rom)

namespace ReadEffect

theorem refl (s : State) : ReadEffect s s :=
  ⟨rfl, rfl, rfl, rfl, .inr ⟨rfl, rfl⟩⟩

theorem trans {s t u : State} (h : ReadEffect s t) (k : ReadEffect t u) : ReadEffect s u where
  m := k.m.trans h.m
  v := k.v.trans h.v
  ram := k.ram.trans h.ram
  cfg := k.cfg.trans h.cfg
  result := by
    rcases k.result with driven | ⟨hout, hrom⟩
    · exact .inl driven
    · rw [hout, hrom]
      exact h.result

theorem drive (s : State) (b : Byte) : ReadEffect s (s.drive b) :=
  ⟨rfl, rfl, rfl, rfl, .inl ⟨b, rfl⟩⟩

theorem driveFrom (s : State) (st : Store) (p : PhysAddr) : ReadEffect s (s.driveFrom st p) := by
  cases st <;> exact ⟨rfl, rfl, rfl, rfl, .inl ⟨_, rfl⟩⟩

theorem lock (s : State) : ReadEffect s s.lock :=
  ⟨rfl, rfl, rfl, rfl, .inr ⟨rfl, rfl⟩⟩

theorem stmtReadW0 (s : State) (a : Access) : ReadEffect s (s.stmtReadW0 a) := by
  rcases stmtReadW0_cases s a with e | e <;> rw [e]
  · exact driveFrom s _ _
  · exact refl s

theorem stmtReadWindow (s : State) (w : Window) (a : Access) :
    ReadEffect s (s.stmtReadWindow w a) := by
  rcases stmtReadWindow_cases s w a with ⟨st, p, e⟩ | e <;> rw [e]
  · exact driveFrom s st p
  · exact refl s

theorem stmtReadReg (s : State) (a : Access) : ReadEffect s (s.stmtReadReg a) := by
  rcases stmtReadReg_cases s a with e | e <;> rw [e]
  · exact drive s _
  · exact refl s

theorem stmtReadStartW5 (s : State) (a : Access) : ReadEffect s (s.stmtReadStartW5 a) := by
  rcases stmtReadStartW5_cases s a with e | e <;> rw [e]
  · exact (driveFrom s _ _).trans (lock _)
  · exact refl s

/-- The READ procedure (R90) is made of statements of this effect, in every mode. -/
theorem readProcedure (s : State) (a : Access) : ReadEffect s (s.readProcedure a) := by
  by_cases h1 : s.mode = .start
  · rw [readProcedure_start h1]
    exact (stmtReadStartW5 s a).trans (stmtReadReg _ a)
  by_cases h2 : s.mode = .unused
  · rw [readProcedure_unused h2]
    exact refl s
  · rw [readProcedure_routed h1 h2]
    exact (stmtReadW0 s a).trans <| (stmtReadWindow _ .w1 a).trans <|
      (stmtReadWindow _ .w2 a).trans <| (stmtReadWindow _ .w3 a).trans <|
      (stmtReadWindow _ .w5 a).trans (stmtReadReg _ a)

end ReadEffect

/-! ### An access that selects one window -/

/-- An access that selects only one window selects no other region. -/
theorem selectsRegion_of_selectsOnly_win {a : Access} {w : Window}
    (h : selectsOnly a (.win w) = true) {r : Region} (hr : r ≠ .win w) :
    selectsRegion a r = false := by
  obtain ⟨hsel, hone⟩ : selectsWindow a w = true ∧ selectedRegions a = 1 := by
    simpa [selectsOnly] using h
  obtain ⟨r₀, others⟩ := exclusive_region (a := a) (by simp [exclusive, hone])
  have hw : Region.win w = r₀ := by
    by_contra hne
    exact Bool.false_ne_true ((others _ hne).symm.trans hsel)
  exact others r (hw ▸ hr)

theorem stmtReadW0_unselected {a : Access} (h : selectsW0 a = false) (s : State) :
    s.stmtReadW0 a = s := by
  simp [State.stmtReadW0, h]

theorem stmtReadWindow_unselected {a : Access} {w : Window} (h : selectsWindow a w = false)
    (s : State) : s.stmtReadWindow w a = s := by
  simp [State.stmtReadWindow, h]

theorem stmtReadReg_unselected {s : State} {a : Access} (hc : s.cfg.regSignal = .io3)
    (h : a.sel.io3 = false) : s.stmtReadReg a = s := by
  simp [State.stmtReadReg, State.granted, regSel, selectsReg, hc, h]

/-- A READ of one window runs that window's statement and no other (R95). -/
theorem readProcedure_of_selectsOnly_win {s : State} {a : Access} {w : Window}
    (h1 : s.mode ≠ .start) (h2 : s.mode ≠ .unused) (hc : s.cfg.regSignal = .io3)
    (h : selectsOnly a (.win w) = true) : s.readProcedure a = s.stmtReadWindow w a := by
  have offW0 : s.stmtReadW0 a = s :=
    stmtReadW0_unselected (selectsRegion_of_selectsOnly_win h (r := .w0) (by simp)) s
  have offWindow (w' : Window) (hne : w' ≠ w) (u : State) : u.stmtReadWindow w' a = u :=
    stmtReadWindow_unselected
      (selectsRegion_of_selectsOnly_win h (r := .win w') (by simpa using hne)) u
  have offReg : (s.stmtReadWindow w a).stmtReadReg a = s.stmtReadWindow w a :=
    stmtReadReg_unselected (by rwa [(ReadEffect.stmtReadWindow s w a).cfg])
      (selectsRegion_of_selectsOnly_win h (r := .reg) (by simp))
  rw [readProcedure_routed h1 h2, offW0]
  cases w <;> simpa [offWindow] using offReg

/-- A WRITE to one window runs that window's statement and no other (R125). -/
theorem writeSlots_of_selectsOnly_win {s : State} {a : Access} {w : Window}
    (h1 : s.mode ≠ .start) (h2 : s.mode ≠ .unused) (hc : s.cfg.regSignal = .io3)
    (h : selectsOnly a (.win w) = true) : s.writeSlots a = s.stmtWriteWindow w a := by
  obtain ⟨hram1, hram2, hram3⟩ : a.sel.ram1 = false ∧ a.sel.ram2 = false ∧ a.sel.ram3 = false := by
    simpa [selectsRegion, selectsW0, and_assoc] using
      selectsRegion_of_selectsOnly_win h (r := .w0) (by simp)
  have offWindow (w' : Window) (hne : w' ≠ w) (u : State) : u.stmtWriteWindow w' a = u :=
    stmtWriteWindow_unselected
      (selectsRegion_of_selectsOnly_win h (r := .win w') (by simpa using hne)) u
  have offReg : (s.stmtWriteWindow w a).stmtWriteReg a = s.stmtWriteWindow w a :=
    stmtWriteReg_unselected (by rwa [stmtWriteWindow_cfg])
      (selectsRegion_of_selectsOnly_win h (r := .reg) (by simp))
  rw [writeSlots_routed h1 h2, hram1, hram2, hram3]
  cases w <;> simpa [offWindow, stmtWriteRam_unselected] using offReg

/-! ### A window of SUPER_RAM -/

theorem selectsWindow_of_selectsOnly {a : Access} {w : Window}
    (h : selectsOnly a (.win w) = true) : selectsWindow a w = true := by
  rw [selectsOnly, Bool.and_eq_true] at h
  exact h.1

/-- In SUPER_RAM a READ of one visible window drives the byte of RAM at BANK (R39). -/
theorem readProcedure_superRam {s : State} {a : Access} {w : Window} (hm : s.mode = .superRam)
    (hv : s.vis (.win w) = true) (hc : s.cfg.regSignal = .io3)
    (h : selectsOnly a (.win w) = true) :
    s.readProcedure a = s.driveFrom .ram (s.addr s.bank (blockOf w) a) := by
  rw [readProcedure_of_selectsOnly_win (by simp [hm]) (by simp [hm]) hc h]
  simp [State.stmtReadWindow, State.routeRead, hm, hv, selectsWindow_of_selectsOnly h]

/-- In SUPER_RAM a WRITE to one visible window stores to RAM at BANK, whatever
ROM_MODE_WRITE_TARGET is (R132). -/
theorem writeSlots_superRam {s : State} {a : Access} {w : Window} (hm : s.mode = .superRam)
    (hv : s.vis (.win w) = true) (hc : s.cfg.regSignal = .io3)
    (h : selectsOnly a (.win w) = true) :
    s.writeSlots a = s.storeTo .ram (s.addr s.bank (blockOf w) a) a.data := by
  rw [writeSlots_of_selectsOnly_win (by simp [hm]) (by simp [hm]) hc h]
  simp [State.stmtWriteWindow, State.routeWrite, State.routeRead, hm, hv,
    selectsWindow_of_selectsOnly h]

theorem step_read_superRam {s : State} {t : TW} {rest : List TW} {a : Access} {w : Window}
    (hp : s.pending = t :: rest) (ht : twTransaction t = .read a) (hm : s.mode = .superRam)
    (hv : s.vis (.win w) = true) (hc : s.cfg.regSignal = .io3)
    (h : selectsOnly a (.win w) = true) :
    step s = .next ((s.begin t rest).driveFrom .ram (s.addr s.bank (blockOf w) a)) :=
  (step_read hp ht).trans (congrArg _ (readProcedure_superRam (s := s.begin t rest) hm hv hc h))

theorem step_write_superRam {s : State} {t : TW} {rest : List TW} {a : Access} {w : Window}
    (hp : s.pending = t :: rest) (ht : twTransaction t = .write a) (hm : s.mode = .superRam)
    (hv : s.vis (.win w) = true) (hc : s.cfg.regSignal = .io3)
    (h : selectsOnly a (.win w) = true) :
    step s = .next ((s.begin t rest).storeTo .ram (s.addr s.bank (blockOf w) a) a.data) :=
  (step_write hp ht).trans (congrArg _ (writeSlots_superRam (s := s.begin t rest) hm hv hc h))

theorem addr_of_off13_eq (s : State) (bank : BitVec 7) (block : BitVec 2) {a a' : Access}
    (h : off13 a = off13 a') : s.addr bank block a = s.addr bank block a' := by
  rw [State.addr, State.addr, h]

/-- Reading a canonical RAM at the address just stored to gives the byte stored. -/
theorem ramByte_of_stored {s t : State} {p : PhysAddr} {b : Byte} (hwf : memWf s.ram = true)
    (ht : t.ram = memWrite s.ram p.toNat b) : t.ramByte p = b := by
  rw [State.ramByte, ht, memRead_memWrite_same hwf]

/-- A run of one step more goes on from the state that the first step leaves. -/
theorem run_succ_of_step {s u : State} (h : step s = .next u) (n : Nat) :
    run (n + 1) s = run n u := by
  have hcore : core.step s = .next u := h
  simp only [run, Host.Core.run, hcore]
  rfl

/-! ### The offset bits that no access examines -/

/-- The access with offset[15:13] cleared (R31). -/
def maskOffset (a : Access) : Access :=
  { a with off := a.off &&& off13Mask }

@[simp] theorem maskOffset_sel (a : Access) : (maskOffset a).sel = a.sel :=
  rfl

@[simp] theorem maskOffset_data (a : Access) : (maskOffset a).data = a.data :=
  rfl

@[simp] theorem selectsW0_maskOffset (a : Access) : selectsW0 (maskOffset a) = selectsW0 a :=
  rfl

@[simp] theorem selectsWindow_maskOffset (a : Access) (w : Window) :
    selectsWindow (maskOffset a) w = selectsWindow a w := by
  cases w <;> rfl

@[simp] theorem off13_maskOffset (a : Access) : off13 (maskOffset a) = off13 a := by
  simp [off13, maskOffset, BitVec.and_assoc]

/-- The register port's match looks at offset bits 1, 10, 11 and 12 only (R81). -/
@[simp] theorem regMatch_maskOffset (a : Access) : regMatch (maskOffset a) = regMatch a := by
  have hmask : off13Mask &&& regMatchMask = regMatchMask := by decide
  simp only [regMatch, maskOffset, BitVec.and_assoc, hmask]

@[simp] theorem regNo_maskOffset (a : Access) : regNo (maskOffset a) = regNo a := by
  have hbit : off13Mask.getLsbD regIndexBit = true := by decide
  simp only [regNo, maskOffset, BitVec.getLsbD_and, hbit, Bool.and_true]

@[simp] theorem addr_maskOffset (s : State) (bank : BitVec 7) (block : BitVec 2) (a : Access) :
    s.addr bank block (maskOffset a) = s.addr bank block a :=
  addr_of_off13_eq s bank block (off13_maskOffset a)

@[simp] theorem granted_maskOffset (s : State) (a : Access) :
    s.granted (maskOffset a) = s.granted a := by
  cases h : s.cfg.regSignal <;> simp [State.granted, regSel, selectsReg, h]

/-! Every statement of READ and WRITE takes its offset through these operands, so it treats the masked
access as the access itself. -/

@[simp] theorem stmtReadW0_maskOffset (s : State) (a : Access) :
    s.stmtReadW0 (maskOffset a) = s.stmtReadW0 a := by
  simp [State.stmtReadW0]

@[simp] theorem stmtReadWindow_maskOffset (s : State) (w : Window) (a : Access) :
    s.stmtReadWindow w (maskOffset a) = s.stmtReadWindow w a := by
  simp [State.stmtReadWindow]

@[simp] theorem stmtReadStartW5_maskOffset (s : State) (a : Access) :
    s.stmtReadStartW5 (maskOffset a) = s.stmtReadStartW5 a := by
  simp [State.stmtReadStartW5]

@[simp] theorem stmtReadReg_maskOffset (s : State) (a : Access) :
    s.stmtReadReg (maskOffset a) = s.stmtReadReg a := by
  simp [State.stmtReadReg]

@[simp] theorem stmtWriteRam_maskOffset (s : State) (asserted : Bool) (a : Access) :
    s.stmtWriteRam asserted (maskOffset a) = s.stmtWriteRam asserted a := by
  simp [State.stmtWriteRam]

@[simp] theorem stmtWriteWindow_maskOffset (s : State) (w : Window) (a : Access) :
    s.stmtWriteWindow w (maskOffset a) = s.stmtWriteWindow w a := by
  simp [State.stmtWriteWindow]

@[simp] theorem stmtWriteStartW5_maskOffset (s : State) (a : Access) :
    s.stmtWriteStartW5 (maskOffset a) = s.stmtWriteStartW5 a := by
  simp [State.stmtWriteStartW5]

@[simp] theorem stmtWriteReg_maskOffset (s : State) (a : Access) :
    s.stmtWriteReg (maskOffset a) = s.stmtWriteReg a := by
  simp [State.stmtWriteReg]

theorem readProcedure_maskOffset (s : State) (a : Access) :
    s.readProcedure (maskOffset a) = s.readProcedure a := by
  simp [State.readProcedure]

theorem writeSlots_maskOffset (s : State) (a : Access) :
    s.writeSlots (maskOffset a) = s.writeSlots a := by
  simp [State.writeSlots]

/-- Accesses that differ in offset[15:13] only are the same once masked. -/
theorem maskOffset_eq {a a' : Access} (hsel : a.sel = a'.sel) (hdata : a.data = a'.data)
    (hoff : a.off &&& 0x1FFF = a'.off &&& 0x1FFF) : maskOffset a = maskOffset a' := by
  have hoff' : a.off &&& off13Mask = a'.off &&& off13Mask := hoff
  simp only [maskOffset, hsel, hdata, hoff']

/-! ### The obligations -/

/-- Settles O48: the operation begins with `d_in` undriven, and all that the READ procedure can do from
there is `ReadEffect.readProcedure`. -/
theorem readChangesNoRegisterAndNoRam : Obligations.ReadChangesNoRegisterAndNoRam := by
  intro s t w rest a hp hw hstep
  cases (step_read hp hw).symm.trans hstep
  obtain ⟨hm, hv, hram, hcfg, hresult⟩ := ReadEffect.readProcedure (s.begin w rest) a
  rw [State.begin_out, hw, initialOut] at hresult
  exact ⟨hm, hv, hram, hcfg, hresult⟩

/-- Settles O52: the WRITE stores to RAM and the READ drives the byte of RAM at the same address, so
this is read after write in a canonical store. -/
theorem superRamRoundTrip : Obligations.SuperRamRoundTrip := by
  intro s w t t' rest a a' hwf hm hv hp ht ht' ha ha' hoff hc
  have hram : memWf s.ram = true := (Bool.and_eq_true_iff.mp hwf).1
  have hwrite := step_write_superRam hp ht hm hv hc ha
  have hread := step_read_superRam
    (s := (s.begin t (t' :: rest)).storeTo .ram (s.addr s.bank (blockOf w) a) a.data)
    rfl ht' hm hv hc ha'
  have hrun := (run_succ_of_step hwrite 1).trans (run_succ_of_step hread 0)
  refine ⟨_, hrun, ?_, rfl, rfl, rfl, rfl⟩
  have haddr := addr_of_off13_eq s s.bank (blockOf w) hoff
  rw [State.driveFrom_ram_out, ramByte_of_stored hram]
  exact congrArg (fun p : PhysAddr => memWrite s.ram p.toNat a.data) haddr

/-- Settles O58: both accesses have one masked form, and the procedures treat an access as its masked
form. -/
theorem highOffsetBitsIgnored : Obligations.HighOffsetBitsIgnored := by
  intro s w w' rest a a' hkind hsel hdata hoff
  have hmask : maskOffset a = maskOffset a' := maskOffset_eq hsel hdata hoff
  have hout : initialOut (twTransaction w) = initialOut (twTransaction w') := by
    rcases hkind with ⟨hw, hw'⟩ | ⟨hw, hw'⟩ <;> simp only [hw, hw', initialOut, hdata]
  have hbegin : State.begin { s with pending := w :: rest } w rest =
      State.begin { s with pending := w' :: rest } w' rest := by
    simp only [State.begin, hout]
  rcases hkind with ⟨hw, hw'⟩ | ⟨hw, hw'⟩
  · rw [step_read rfl hw, step_read rfl hw', hbegin, ← readProcedure_maskOffset, hmask,
      readProcedure_maskOffset]
  · rw [step_write rfl hw, step_write rfl hw', hbegin, ← writeSlots_maskOffset, hmask,
      writeSlots_maskOffset]

end Sys2Proof.Machine


/-! PROOFS. Encoding (30_encoding.md): reading and writing a transaction word (R54); MODE_ENC (R55,
R56); the decoder against the match and mask words of the opcode table (R57, R58), both ways; a row
that does not fire; the step against the decoder and against the procedures; mode UNUSED; the signal
that no rule examines (R59). -/

namespace Sys2Proof

open Machine

/-! ### Reading a transaction word drops no bit (R54) -/

theorem selectsWord_twAccess_bit (t : TW) (i : Nat) (hi : i < 35) :
    (selectsWord (twAccess t).sel).getLsbD i = (decide (24 ≤ i ∧ i < 33) && t.getLsbD i) := by
  rw [getLsbD_selectsWord _ _ hi]
  interval_cases i <;> simp [twAccess]

/-- The word of the access that is read from a word has that word's bits below RW (R54). -/
theorem accessWord_twAccess_bit (t : TW) (i : Nat) (hi : i < 35) :
    (accessWord (twAccess t)).getLsbD i = (decide (i < 33) && t.getLsbD i) := by
  rw [getLsbD_accessWord _ _ hi, selectsWord_twAccess_bit t i hi]
  simp only [twAccess, BitVec.getLsbD_extractLsb']
  by_cases h8 : i < 8
  · simp [h8, show i < 33 by omega]
  by_cases h24 : i < 24
  · have hoff : i - 8 < 16 ∧ 8 + (i - 8) = i := by omega
    simp [h8, hoff, show ¬ 24 ≤ i by omega, show i < 33 by omega]
  · have hoff : ¬ i - 8 < 16 := by omega
    simp [h8, hoff, show 24 ≤ i by omega]

/-- A word with RST clear is the word of the operation read from it: below RW by the access, and RW
because the operation is read from it. -/
theorem transactionWord_twTransaction {t : TW} (h : t.getLsbD 34 = false) :
    transactionWord (twTransaction t) = t := by
  have rw_bit (i : Nat) (hi : i < 35) : (0x200000000 : TW).getLsbD i = decide (i = 33) := by
    interval_cases i <;> rfl
  apply BitVec.eq_of_getLsbD_eq
  intro i hi
  have bits : i < 33 ∨ i = 33 ∨ i = 34 := by omega
  cases hw : t.getLsbD 33 with
  | false =>
    rw [twTransaction, h, hw, if_neg Bool.false_ne_true, if_neg Bool.false_ne_true, transactionWord,
      accessWord_twAccess_bit t i hi]
    rcases bits with h33 | rfl | rfl
    · rw [decide_eq_true h33, Bool.true_and]
    · rw [hw]; rfl
    · rw [h]; rfl
  | true =>
    rw [twTransaction, h, hw, if_neg Bool.false_ne_true, if_pos rfl, transactionWord,
      BitVec.getLsbD_or, accessWord_twAccess_bit t i hi, rw_bit i hi]
    rcases bits with h33 | rfl | rfl
    · rw [decide_eq_true h33, decide_eq_false (by omega), Bool.true_and, Bool.false_or]
    · rw [hw]; rfl
    · rw [h]; rfl

/-- Settles O3: `transactionWord_twTransaction`. -/
theorem transactionWordsReadBack : Obligations.TransactionWordsReadBack :=
  fun _ h => transactionWord_twTransaction h

/-! ### MODE_ENC (R55, R56) -/

/-- The values of the seven modes. -/
def ModeEnc.codes (e : ModeEnc) : List (BitVec 3) :=
  [e.start, e.flash, e.superRom, e.ramRom, e.ram1, e.superRam, e.ram2]

/-- The values of the seven modes differ (R55). -/
theorem ModeEnc.wf_nodup {e : ModeEnc} (h : e.wf = true) : e.codes.Nodup := by
  rw [ModeEnc.wf, Bool.and_eq_true, decide_eq_true_eq] at h
  exact h.2

theorem modeOfCode_eq_unused_iff (e : ModeEnc) (x : BitVec 3) :
    modeOfCode e x = .unused ↔ x ∉ e.codes := by
  simp only [modeOfCode, ModeEnc.codes, List.mem_cons, List.not_mem_nil, or_false, not_or]
  split_ifs <;> simp_all

/-- Seven values leave one of the eight over, and only one. -/
theorem ModeEnc.existsUnique_unused {e : ModeEnc} (h : e.wf = true) : ∃! x, x ∉ e.codes := by
  have hcard : ((Finset.univ : Finset (BitVec 3)) \ e.codes.toFinset).card = 1 := by
    rw [Finset.card_sdiff_of_subset (Finset.subset_univ _),
      List.toFinset_card_of_nodup (wf_nodup h)]
    rfl
  obtain ⟨x, hx⟩ := Finset.card_eq_one.mp hcard
  have mem (y : BitVec 3) : y ∉ e.codes ↔ y = x := by
    simpa using Finset.ext_iff.mp hx y
  exact ⟨x, (mem x).mpr rfl, fun y hy => (mem y).mp hy⟩

/-- The value that the model picks for UNUSED names no mode. -/
theorem modeOfCode_unusedCode {e : ModeEnc} (h : e.wf = true) :
    modeOfCode e (unusedCode e) = .unused := by
  obtain ⟨x, hx, -⟩ := e.existsUnique_unused h
  have mem : x ∈ ([7, 6, 5, 4, 3, 2, 1, 0] : List (BitVec 3)) := by
    exact (by decide : ∀ y : BitVec 3, y ∈ [7, 6, 5, 4, 3, 2, 1, 0]) x
  rw [unusedCode]
  cases hf : ([7, 6, 5, 4, 3, 2, 1, 0] : List (BitVec 3)).find? fun y =>
      modeOfCode e y = .unused with
  | none =>
    have hnone := List.find?_eq_none.mp hf x mem
    simp [modeOfCode_eq_unused_iff, hx] at hnone
  | some y => simpa using List.find?_some hf

/-- The value of each of the eight modes decodes to that mode. -/
theorem modeOfCode_codeOfMode {e : ModeEnc} (h : e.wf = true) (md : Mode) :
    modeOfCode e (codeOfMode e md) = md := by
  have hnodup := e.wf_nodup h
  simp only [ModeEnc.codes, List.nodup_cons, List.mem_cons, List.not_mem_nil, or_false,
    not_or] at hnodup
  cases md
  case unused => exact modeOfCode_unusedCode h
  all_goals
    simp only [codeOfMode, modeOfCode]
    split_ifs <;> simp_all

/-- A value of the mode field stands for a mode exactly when it is that mode's value. -/
theorem modeOfCode_eq_iff {e : ModeEnc} (h : e.wf = true) (x : BitVec 3) (md : Mode) :
    modeOfCode e x = md ↔ x = codeOfMode e md := by
  refine ⟨fun hx => ?_, fun hx => hx ▸ modeOfCode_codeOfMode h md⟩
  subst hx
  by_cases hu : modeOfCode e x = .unused
  · rw [hu]
    exact (e.existsUnique_unused h).unique ((modeOfCode_eq_unused_iff e x).mp hu)
      ((modeOfCode_eq_unused_iff e _).mp (modeOfCode_unusedCode h))
  · revert hu
    rw [modeOfCode]
    split_ifs <;> simp_all [codeOfMode]

/-- Settles O5: `modeOfCode_codeOfMode`, and `modeOfCode_eq_iff` at UNUSED. -/
theorem modeEncodingInvertible : Obligations.ModeEncodingInvertible := fun _ h =>
  ⟨modeOfCode_codeOfMode h, fun x => modeOfCode_eq_iff h x .unused⟩

/-! ### Words that fix some of their bits -/

section Literals

/-- A bit of a word, and the value that is asked of it. -/
abbrev Literal := Nat × Bool

/-- The mask of some literals: their bits. -/
def litMask (w : Nat) : List Literal → BitVec w
  | []      => 0
  | l :: ls => BitVec.twoPow w l.1 ||| litMask w ls

/-- The pattern of some literals: their bits with the values asked for. -/
def litPattern (w : Nat) : List Literal → BitVec w
  | []      => 0
  | l :: ls => (if l.2 then BitVec.twoPow w l.1 else 0) ||| litPattern w ls

variable {w : Nat}

/-- A match over two masks that share no bit is a match over each. -/
theorem and_or_eq_or_iff {k a b p q : BitVec w} (hab : a &&& b = 0) (hp : p &&& a = p)
    (hq : q &&& b = q) : k &&& (a ||| b) = p ||| q ↔ k &&& a = p ∧ k &&& b = q := by
  constructor
  · intro h
    have left : k &&& a = p &&& a ||| q &&& (a &&& b) := by
      rw [show k &&& a = (k &&& (a ||| b)) &&& a by ext; simp; grind, h, ← hq]
      ext; simp; grind
    have right : k &&& b = q &&& b ||| p &&& (a &&& b) := by
      rw [show k &&& b = (k &&& (a ||| b)) &&& b by ext; simp; grind, h, ← hp]
      ext; simp; grind
    simpa [hab, hp, hq] using And.intro left right
  · rintro ⟨rfl, rfl⟩
    ext; simp [Bool.and_or_distrib_left]

theorem and_twoPow_eq_iff (k : BitVec w) {n : Nat} (hn : n < w) (b : Bool) :
    k &&& BitVec.twoPow w n = (if b then BitVec.twoPow w n else 0) ↔ k.getLsbD n = b := by
  have hne : BitVec.twoPow w n ≠ 0#w := fun h => by
    simpa [hn] using congrArg (fun x : BitVec w => x.getLsbD n) h
  rw [BitVec.and_twoPow]
  cases k.getLsbD n <;> cases b <;> simp [hne, hne.symm]

/-- The mask of some literals has their bits and no other. -/
theorem getLsbD_litMask (ls : List Literal) (n : Nat) :
    (litMask w ls).getLsbD n = decide (n < w ∧ n ∈ ls.map Prod.fst) := by
  induction ls with
  | nil => simp [litMask]
  | cons l ls ih =>
    rw [litMask, BitVec.getLsbD_or, BitVec.getLsbD_twoPow, ih]
    simp only [List.map_cons, List.mem_cons]
    grind

theorem twoPow_and_litMask {n : Nat} {ls : List Literal} (h : n ∉ ls.map Prod.fst) :
    BitVec.twoPow w n &&& litMask w ls = 0 := by
  rw [BitVec.and_comm, BitVec.and_twoPow, getLsbD_litMask, decide_eq_false (fun hn => h hn.2)]
  rfl

theorem litPattern_and_litMask (ls : List Literal) :
    litPattern w ls &&& litMask w ls = litPattern w ls := by
  induction ls with
  | nil => simp [litPattern]
  | cons l ls ih =>
    rw [litPattern, litMask, ← ih]
    cases l.2 <;> (ext; simp; grind)

/-- A word matches the mask and pattern of some literals exactly when it has each literal's bit. -/
theorem and_litMask_eq_iff (k : BitVec w) {ls : List Literal} (hinside : ∀ l ∈ ls, l.1 < w)
    (hnodup : (ls.map Prod.fst).Nodup) :
    k &&& litMask w ls = litPattern w ls ↔ ∀ l ∈ ls, k.getLsbD l.1 = l.2 := by
  induction ls with
  | nil => simp [litMask, litPattern]
  | cons l ls ih =>
    rw [List.map_cons, List.nodup_cons] at hnodup
    rw [List.forall_mem_cons] at hinside ⊢
    rw [litMask, litPattern, and_or_eq_or_iff (twoPow_and_litMask hnodup.1) _
      (litPattern_and_litMask ls), and_twoPow_eq_iff k hinside.1, ih hinside.2 hnodup.2]
    split <;> simp

end Literals

/-- The register window's match asks for offset bits 1, 10, 11 and 12 (R81). -/
theorem regMatch_iff (a : Access) :
    regMatch a = true ↔ ∀ n ∈ [12, 11, 10, 1], a.off.getLsbD n = true := by
  have hmask : regMatchMask = litMask 16 [(12, true), (11, true), (10, true), (1, true)] := by
    decide
  have hvalue : regMatchValue = litPattern 16 [(12, true), (11, true), (10, true), (1, true)] := by
    decide
  rw [regMatch, beq_iff_eq, hmask, hvalue, and_litMask_eq_iff a.off (by decide) (by decide)]
  simp

/-! ### The mode field of a key -/

/-- Matching the mode field alone is comparing its three bits. -/
theorem and_modeFieldMask_eq_iff (k : Key) (x : BitVec 3) :
    k &&& modeFieldMask = x.setWidth 52 <<< 40 ↔ k.extractLsb' 40 3 = x := by
  have field : k &&& modeFieldMask = (k.extractLsb' 40 3).setWidth 52 <<< 40 := by
    ext i hi
    interval_cases i <;> simp [modeFieldMask]
  have injective : ∀ x y : BitVec 3, x.setWidth 52 <<< 40 = y.setWidth 52 <<< 40 → x = y := by
    decide
  rw [field]
  exact ⟨injective _ _, congrArg fun y : BitVec 3 => y.setWidth 52 <<< 40⟩

theorem setWidth_and_modeFieldMask (x : BitVec 3) :
    (x.setWidth 52 <<< 40) &&& modeFieldMask = x.setWidth 52 <<< 40 :=
  (by decide : ∀ y : BitVec 3, (y.setWidth 52 <<< 40) &&& modeFieldMask = y.setWidth 52 <<< 40) x

/-! ### The rows of the opcode table, literal by literal (R57, R58) -/

/-- RW, as the row asks for it. -/
def Row.isWrite (r : Row) : Bool :=
  r.pattern.getLsbD 33

/-- The register number that the row asks for. -/
def Row.second (r : Row) : Bool :=
  r.pattern.getLsbD 8

/-- In RAM_ROM and RAM_2 a window has two rows, one for each value of its select bit. -/
def Row.isSplit (r : Row) : Bool :=
  r.mode == some .ramRom || r.mode == some .ram2

/-- The place in the key of a window's select bit, a bit of `M`. -/
def selectPlace (w : Window) : Nat :=
  35 + defaultConfig.selBit.pos w

/-- The place in the key of a region's hide bit, a bit of `V`. -/
def hidePlace (r : Region) : Nat :=
  43 + visPos defaultConfig r

/-- The value of a window's select bit that the row asks for. -/
def Row.selected (r : Row) (w : Window) : Bool :=
  r.pattern.getLsbD (selectPlace w)

/-- The literals of a row of window 0 with its signal at the given place. -/
def Row.ramLiterals (r : Row) (signal : Nat) : List Literal :=
  (signal, true) :: if r.mode = some .start then [] else [(hidePlace .w0, false)]

/-- The literals of a row of window 1, 2, 3 or 5 with its signal at the given place. -/
def Row.windowLiterals (r : Row) (w : Window) (signal : Nat) : List Literal :=
  (signal, true) ::
    ((if r.mode = some .start ∧ w ≠ .w5 then [] else [(hidePlace (.win w), false)]) ++
      if r.isSplit then [(selectPlace w, r.selected w)] else [])

/-- The literals of a register row: io3, `regmatch`, the register number and the gate of R82. -/
def Row.regLiterals (r : Row) : List Literal :=
  [(32, true), (20, true), (19, true), (18, true), (9, true), (8, r.second),
    (if r.mode = some .start then 51 else hidePlace .reg, false)]

/-- The literals that a row's slot adds to RST, RW and the mode. -/
def Row.slotLiterals (r : Row) : Slot → List Literal
  | .rst    => []
  | .io2    => [(31, true)]
  | .unused => []
  | .ram1   => r.ramLiterals 24
  | .ram2   => r.ramLiterals 25
  | .ram3   => r.ramLiterals 26
  | .blk1   => r.windowLiterals .w1 27
  | .blk2   => r.windowLiterals .w2 28
  | .blk3   => r.windowLiterals .w3 29
  | .blk5   => r.windowLiterals .w5 30
  | .reg    => r.regLiterals

/-- All the literals of a row but those of the mode field. RESET asks for RST alone (R54). -/
def Row.literals (r : Row) (s : Slot) : List Literal :=
  if s = .rst then [(34, true)] else (34, false) :: (33, r.isWrite) :: r.slotLiterals s

/-- The match and mask words of a row are those of the given literals, with the mode field where the
row has a mode. -/
structure Row.IsOfLiterals (r : Row) (ls : List Literal) : Prop where
  mask     : r.mask = litMask 52 ls ||| if r.mode.isSome then modeFieldMask else 0
  pattern  : r.pattern &&& ~~~modeFieldMask = litPattern 52 ls
  noMode   : r.mode = none → r.pattern = litPattern 52 ls
  apart    : litMask 52 ls &&& modeFieldMask = 0
  distinct : (ls.map Prod.fst).Nodup
  inKey    : ∀ l ∈ ls, l.1 < 52

/-- Every row of the opcode table is the row of its literals. -/
theorem row_isOfLiterals (i : Instr) : i.row.IsOfLiterals (i.row.literals i.slot) := by
  cases i <;>
    (rw [Instr.row, Instr.slot]
     exact ⟨by decide, by decide, by decide, by decide, by decide, by decide⟩)

/-- A key matches a row exactly when it has the row's literals and, if the row has a mode, that
mode's value in the mode field. -/
theorem row_matches_iff (e : ModeEnc) (i : Instr) (k : Key) :
    k &&& i.row.mask = rowPattern e i.row ↔
      (∀ l ∈ i.row.literals i.slot, k.getLsbD l.1 = l.2) ∧
      ∀ md, i.row.mode = some md → k.extractLsb' 40 3 = codeOfMode e md := by
  obtain ⟨mask, pattern, noMode, apart, distinct, inKey⟩ := row_isOfLiterals i
  rw [mask, ← and_litMask_eq_iff k inKey distinct]
  cases hm : i.row.mode with
  | none => simp [rowPattern, hm, noMode hm]
  | some md =>
    simp only [rowPattern, hm, pattern, Option.isSome_some, if_true, Option.some.injEq,
      forall_eq']
    rw [and_or_eq_or_iff apart (litPattern_and_litMask _) (setWidth_and_modeFieldMask _),
      and_modeFieldMask_eq_iff]

/-- The match words are the table's own under the default MODE_ENC (R57). -/
theorem rowPattern_default (i : Instr) : rowPattern defaultModeEnc i.row = i.row.pattern := by
  have h := Laws.EncodedKeyFiresRow.row_lies_in_mask i
  simp only [Laws.EncodedKeyFiresRow.rowLiesInMask, Bool.and_eq_true, beq_iff_eq] at h
  obtain ⟨⟨hpattern, -⟩, -⟩ := h
  exact hpattern

/-! ### The decoder, slot by slot -/

/-- The operation of an access. -/
def accessTransaction (write : Bool) (a : Access) : Transaction :=
  if write then .write a else .read a

theorem instrTransaction_eq {i : Instr} {a : Access} (h : i.access = some a) :
    instrTransaction i = accessTransaction i.row.isWrite a := by
  rw [instrTransaction, h]; rfl

theorem accessTransaction_inj {write write' : Bool} {a a' : Access} :
    accessTransaction write a = accessTransaction write' a' ↔ write = write' ∧ a = a' := by
  cases write <;> cases write' <;> simp [accessTransaction]

/-- The condition under which a slot of the decoder is open to an access (R90, R120). -/
def slotOpen (c : Config) (a : Access) (m v : Byte) (latch : Bool) : Slot → Bool
  | .rst    => false
  | .io2    => selectsIgnored c a
  | .unused => true
  | .ram1   => a.sel.ram1 && window0Open c m v
  | .ram2   => a.sel.ram2 && window0Open c m v
  | .ram3   => a.sel.ram3 && window0Open c m v
  | .blk1   => a.sel.blk1 && windowOpen c m v .w1
  | .blk2   => a.sel.blk2 && windowOpen c m v .w2
  | .blk3   => a.sel.blk3 && windowOpen c m v .w3
  | .blk5   => a.sel.blk5 && windowOpen c m v .w5
  | .reg    => regSel c a && regGate c m v latch

/-- The row of a window, for a READ or a WRITE. -/
def rowOfWindow (write : Bool) (a : Access) (bit : Bool) (md : Mode) (w : Window) : Option Instr :=
  if write then rowOfWriteWindow a bit md w else rowOfReadWindow a bit md w

/-- The row of a register, for a READ or a WRITE. -/
def rowOfReg (write : Bool) (a : Access) (number : Bool) (md : Mode) : Option Instr :=
  if write then rowOfWriteReg a number md else rowOfReadReg a number md

/-- The row of an open slot, by the mode, the windows' select bits and the register number. -/
def rowAt (write : Bool) (a : Access) (md : Mode) (sel : Window → Bool) (number : Bool) :
    Slot → Option Instr
  | .rst    => none
  | .io2    => some (if write then .wrAnyIo2 a else .rdAnyIo2 a)
  | .unused =>
    if md = .unused then some (if write then .wrUnusedAny a else .rdUnusedAny a) else none
  | .ram1   => if write then rowOfWriteRam1 a md else rowOfReadRam1 a md
  | .ram2   => if write then rowOfWriteRam2 a md else rowOfReadRam2 a md
  | .ram3   => if write then rowOfWriteRam3 a md else rowOfReadRam3 a md
  | .blk1   => rowOfWindow write a (sel .w1) md .w1
  | .blk2   => rowOfWindow write a (sel .w2) md .w2
  | .blk3   => rowOfWindow write a (sel .w3) md .w3
  | .blk5   => rowOfWindow write a (sel .w5) md .w5
  | .reg    => rowOfReg write a number md

/-- The decoder tries each slot's condition, then takes the slot's row (R57). -/
theorem decodeSlot_access (c : Config) (s : Slot) (write : Bool) (a : Access) (m v : Byte)
    (latch : Bool) :
    decodeSlot c s { tx := accessTransaction write a, m := m, v := v, latch := latch } =
      if slotOpen c a m v latch s then rowAt write a (modeOf c m) (selectBit c m) (regNo a) s
      else none := by
  cases write <;> cases s <;> rfl

/-- The window of a slot, if it has one. -/
def Slot.window : Slot → Option Window
  | .blk1 => some .w1
  | .blk2 => some .w2
  | .blk3 => some .w3
  | .blk5 => some .w5
  | _     => none

/-- What a row asks of the mode, of the register number and of its window's select bit. -/
structure Row.Agrees (r : Row) (s : Slot) (md : Mode) (sel : Window → Bool) (number : Bool) :
    Prop where
  mode   : ∀ md', r.mode = some md' → md = md'
  select : ∀ w, s.window = some w → r.isSplit = true → sel w = r.selected w
  number : s = .reg → number = r.second

/-! What a row of the table asks for, read off its match word. -/

@[simp] theorem Row.isWrite_mk (p mask : Key) (n : Nat) (md : Option Mode) :
    (Row.mk p mask n md).isWrite = p.getLsbD 33 :=
  rfl

@[simp] theorem Row.second_mk (p mask : Key) (n : Nat) (md : Option Mode) :
    (Row.mk p mask n md).second = p.getLsbD 8 :=
  rfl

@[simp] theorem Row.selected_mk (p mask : Key) (n : Nat) (md : Option Mode) (w : Window) :
    (Row.mk p mask n md).selected w = p.getLsbD (selectPlace w) :=
  rfl

@[simp] theorem selectPlace_w1 : selectPlace .w1 = 36 :=
  rfl

@[simp] theorem selectPlace_w2 : selectPlace .w2 = 37 :=
  rfl

@[simp] theorem selectPlace_w3 : selectPlace .w3 = 38 :=
  rfl

@[simp] theorem selectPlace_w5 : selectPlace .w5 = 39 :=
  rfl

/-- An instruction that agrees with the mode, the register number and the select bits is the row of
its slot. -/
theorem rowAt_of_agrees {i : Instr} {a : Access} {md : Mode} {sel : Window → Bool} {number : Bool}
    (ha : i.access = some a) (h : i.row.Agrees i.slot md sel number) :
    rowAt i.row.isWrite a md sel number i.slot = some i := by
  obtain ⟨mode, select, number⟩ := h
  cases i
  case reset => cases ha
  case rdAnyIo2 => cases ha; rw [Instr.row]; rfl
  case wrAnyIo2 => cases ha; rw [Instr.row]; rfl
  all_goals
    cases ha
    obtain rfl := mode _ rfl
    simp_all [Instr.row, Instr.slot, Slot.window, Row.isSplit, rowAt, rowOfWindow, rowOfReg,
      rowOfReadRam1, rowOfReadRam2, rowOfReadRam3, rowOfReadWindow, rowOfReadReg,
      rowOfWriteRam1, rowOfWriteRam2, rowOfWriteRam3, rowOfWriteWindow, rowOfWriteReg]

/-- What an instruction is when it is the row of a slot. -/
structure Instr.IsRowOf (i : Instr) (write : Bool) (a : Access) (md : Mode) (sel : Window → Bool)
    (number : Bool) (s : Slot) : Prop where
  slot    : i.slot = s
  access  : i.access = some a
  isWrite : i.row.isWrite = write
  agrees  : i.row.Agrees s md sel number

theorem rowOfWindow_isRowOf {write : Bool} {a : Access} {md : Mode} {sel : Window → Bool}
    {w : Window} {i : Instr} (h : rowOfWindow write a (sel w) md w = some i) (number : Bool) :
    i.IsRowOf write a md sel number (slotOf w) := by
  rcases hs : sel w with _ | _ <;> rw [hs] at h <;>
    cases write <;> cases md <;> cases w <;> cases h <;>
    exact ⟨rfl, rfl, by simp [Instr.row], by simp [Instr.row],
      by simp [slotOf, Slot.window, Row.isSplit, Instr.row, hs], by simp [slotOf]⟩

theorem rowOfReg_isRowOf {write : Bool} {a : Access} {md : Mode} {number : Bool} {i : Instr}
    (h : rowOfReg write a number md = some i) (sel : Window → Bool) :
    i.IsRowOf write a md sel number .reg := by
  cases write <;> cases number <;> cases md <;> cases h <;>
    exact ⟨rfl, rfl, by simp [Instr.row], by simp [Instr.row], by simp [Slot.window],
      by simp [Instr.row]⟩

/-- What the decoder finds at a slot is a row of that slot, for that access, mode, register number
and select bit. -/
theorem rowAt_isRowOf {write : Bool} {a : Access} {md : Mode} {sel : Window → Bool} {number : Bool}
    {s : Slot} {i : Instr} (h : rowAt write a md sel number s = some i) :
    i.IsRowOf write a md sel number s := by
  cases s
  case rst => cases h
  case io2 | unused | ram1 | ram2 | ram3 =>
    cases write <;> cases md <;> cases h <;>
      exact ⟨rfl, rfl, by simp [Instr.row], by simp [Instr.row], by simp [Slot.window], by simp⟩
  case blk1 | blk2 | blk3 | blk5 => exact rowOfWindow_isRowOf h number
  case reg => exact rowOfReg_isRowOf h sel

/-- The row that the decoder finds at a slot, told by what the opcode table says of it. -/
theorem rowAt_eq_some_iff {write : Bool} {a : Access} {md : Mode} {sel : Window → Bool}
    {number : Bool} {s : Slot} {i : Instr} :
    rowAt write a md sel number s = some i ↔ i.IsRowOf write a md sel number s := by
  refine ⟨rowAt_isRowOf, ?_⟩
  rintro ⟨rfl, ha, rfl, hagrees⟩
  exact rowAt_of_agrees ha hagrees

theorem Instr.access_eq_none_iff (i : Instr) : i.access = none ↔ i = .reset := by
  cases i <;> simp [Instr.access]

/-- The decoder fires an instruction exactly at the instruction's own slot, for its own operation,
where the slot is open and the mode, the register number and the select bit are its row's. -/
theorem decodeSlot_eq_some_iff {c : Config} {s : Slot} {i : Instr} {a : Access}
    (ha : i.access = some a) {kv : KeyView} :
    decodeSlot c s kv = some i ↔ i.slot = s ∧ instrTransaction i = kv.tx ∧
      slotOpen c a kv.m kv.v kv.latch s = true ∧
        i.row.Agrees s (modeOf c kv.m) (selectBit c kv.m) (regNo a) := by
  have access (write : Bool) (b : Access) :
      decodeSlot c s { kv with tx := accessTransaction write b } = some i ↔
        i.slot = s ∧ instrTransaction i = accessTransaction write b ∧
          slotOpen c a kv.m kv.v kv.latch s = true ∧
          i.row.Agrees s (modeOf c kv.m) (selectBit c kv.m) (regNo a) := by
    rw [decodeSlot_access, Option.ite_none_right_eq_some, rowAt_eq_some_iff, instrTransaction_eq ha,
      accessTransaction_inj]
    constructor
    · rintro ⟨hopen, ⟨hslot, hacc, hw, hag⟩⟩
      cases ha.symm.trans hacc
      exact ⟨hslot, ⟨hw, rfl⟩, hopen, hag⟩
    · rintro ⟨hslot, ⟨hw, rfl⟩, hopen, hag⟩
      exact ⟨hopen, ⟨hslot, ha, hw, hag⟩⟩
  obtain ⟨tx, m, v, latch⟩ := kv
  cases tx with
  | reset =>
    have hne : instrTransaction i ≠ .reset := by
      rw [instrTransaction_eq ha]; cases i.row.isWrite <;> simp [accessTransaction]
    have hi : some Instr.reset ≠ some i := by rintro ⟨⟩; cases ha
    simp only [decodeSlot, hne, false_and, and_false, iff_false]
    split
    · exact hi
    · simp
  | read b => exact access false b
  | write b => exact access true b

/-- The row RESET fires for a RESET, at its own slot (R54). -/
theorem decodeSlot_eq_some_reset_iff {c : Config} {s : Slot} {kv : KeyView} :
    decodeSlot c s kv = some .reset ↔ s = .rst ∧ kv.tx = .reset := by
  have access (write : Bool) (b : Access) :
      decodeSlot c s { kv with tx := accessTransaction write b } ≠ some .reset := by
    rw [decodeSlot_access, Ne, Option.ite_none_right_eq_some, rowAt_eq_some_iff]
    rintro ⟨-, h⟩
    cases h.access
  obtain ⟨tx, m, v, latch⟩ := kv
  cases tx with
  | reset => simp [decodeSlot]
  | read b => exact iff_of_false (access false b) (by simp)
  | write b => exact iff_of_false (access true b) (by simp)

/-! ### The fields of a key under the default positions (R57) -/

/-- The defaults of R7 with another MODE_ENC. -/
def configWith (e : ModeEnc) : Config :=
  { defaultConfig with modeEnc := e }

/-- The access that a key holds. -/
def keyAccess (k : Key) : Access :=
  twAccess (k.extractLsb' 0 35)

theorem keyView_tx (k : Key) :
    (keyView k).tx =
      if k.getLsbD 34 then .reset else accessTransaction (k.getLsbD 33) (keyAccess k) := by
  have bit (n : Nat) (hn : n < 35) : (k.extractLsb' 0 35).getLsbD n = k.getLsbD n := by
    simp [hn]
  simp only [keyView, twTransaction, bit 34 (by decide), bit 33 (by decide), accessTransaction,
    keyAccess]

theorem keyView_tx_eq_reset_iff (k : Key) : (keyView k).tx = .reset ↔ k.getLsbD 34 = true := by
  rw [keyView_tx]
  cases k.getLsbD 34
  · cases k.getLsbD 33 <;> simp [accessTransaction]
  · simp

theorem keyAccess_sel (k : Key) :
    (keyAccess k).sel = {
      ram1 := k.getLsbD 24, ram2 := k.getLsbD 25, ram3 := k.getLsbD 26, blk1 := k.getLsbD 27
      blk2 := k.getLsbD 28, blk3 := k.getLsbD 29, blk5 := k.getLsbD 30, io2 := k.getLsbD 31
      io3 := k.getLsbD 32 } := by
  simp [keyAccess, twAccess]

theorem keyAccess_off_bit (k : Key) {n : Nat} (hn : n < 16) :
    (keyAccess k).off.getLsbD n = k.getLsbD (8 + n) := by
  simp [keyAccess, twAccess, hn]

theorem keyAccess_regNo (k : Key) : regNo (keyAccess k) = k.getLsbD 8 :=
  keyAccess_off_bit k (by decide)

theorem keyAccess_regMatch_iff (k : Key) :
    regMatch (keyAccess k) = true ↔
      k.getLsbD 20 = true ∧ k.getLsbD 19 = true ∧ k.getLsbD 18 = true ∧ k.getLsbD 9 = true := by
  have bits : ∀ n ∈ [12, 11, 10, 1], (keyAccess k).off.getLsbD n = k.getLsbD (8 + n) :=
    fun n hn => keyAccess_off_bit k ((by decide : ∀ n ∈ [12, 11, 10, 1], n < 16) n hn)
  rw [List.forall_mem_cons, List.forall_mem_cons, List.forall_mem_cons,
    List.forall_mem_singleton] at bits
  obtain ⟨h12, h11, h10, h1⟩ := bits
  rw [regMatch_iff, List.forall_mem_cons, List.forall_mem_cons, List.forall_mem_cons,
    List.forall_mem_singleton, h12, h11, h10, h1]

theorem keyView_visible (e : ModeEnc) (k : Key) (r : Region) :
    visible (configWith e) (keyView k).v r = !k.getLsbD (hidePlace r) := by
  have hpos : visPos defaultConfig r < 8 := by
    rcases r with _ | w | _
    · decide
    · cases w <;> decide
    · decide
  have hvis : visible (configWith e) (keyView k).v r =
      ((keyView k).v.getLsbD (visPos defaultConfig r) != true) := by
    cases r <;> rfl
  rw [hvis]
  simp [keyView, hidePlace, hpos]

theorem keyView_selectBit (e : ModeEnc) (k : Key) (w : Window) :
    selectBit (configWith e) (keyView k).m w = k.getLsbD (selectPlace w) := by
  have hpos : defaultConfig.selBit.pos w < 8 := by cases w <;> decide
  have hsel : selectBit (configWith e) (keyView k).m w =
      (keyView k).m.getLsbD (defaultConfig.selBit.pos w) := rfl
  rw [hsel]
  simp [keyView, selectPlace, hpos]

theorem keyView_mode_eq_iff {e : ModeEnc} (he : e.wf = true) (k : Key) (md : Mode) :
    modeOf (configWith e) (keyView k).m = md ↔ k.extractLsb' 40 3 = codeOfMode e md := by
  have hcode : modeCode (configWith e) (keyView k).m = k.extractLsb' 40 3 := by
    simp only [modeCode, keyView, configWith, defaultConfig]
    ext i hi
    have : 5 + i < 8 := by omega
    simp [this]
    congr 1
    omega
  rw [modeOf, hcode]
  exact modeOfCode_eq_iff he _ md

/-! ### A row fires where the key has its literals -/

theorem window0Open_iff {c : Config} {m v : Byte} (h : modeOf c m ≠ .unused) :
    window0Open c m v = true ↔ (modeOf c m ≠ .start → visible c v .w0 = true) := by
  unfold window0Open
  cases hm : modeOf c m <;> simp_all

theorem windowOpen_iff {c : Config} {m v : Byte} (h : modeOf c m ≠ .unused)
    (hgated : c.startW5VisGated = true) (w : Window) :
    windowOpen c m v w = true ↔
      (¬ (modeOf c m = .start ∧ w ≠ .w5) → visible c v (.win w) = true) := by
  unfold windowOpen
  cases hm : modeOf c m
  case start => cases w <;> simp [startW5Open, hgated]
  case unused => exact absurd hm h
  all_goals simp

theorem regGate_iff {c : Config} {m v : Byte} {latch : Bool} (h : modeOf c m ≠ .unused) :
    regGate c m v latch = true ↔
      if modeOf c m = .start then latch = false else visible c v .reg = true := by
  unfold regGate
  cases hm : modeOf c m <;> simp_all

section KeyAgainstRow

variable {k : Key} {r : Row}

theorem ramLiterals_iff (signal : Nat) :
    (∀ l ∈ r.ramLiterals signal, k.getLsbD l.1 = l.2) ↔
      k.getLsbD signal = true ∧
        (r.mode ≠ some .start → k.getLsbD (hidePlace .w0) = false) := by
  unfold Row.ramLiterals
  split <;> simp [*]

theorem windowLiterals_iff (w : Window) (signal : Nat) :
    (∀ l ∈ r.windowLiterals w signal, k.getLsbD l.1 = l.2) ↔
      k.getLsbD signal = true ∧
        (¬ (r.mode = some .start ∧ w ≠ .w5) → k.getLsbD (hidePlace (.win w)) = false) ∧
        (r.isSplit = true → k.getLsbD (selectPlace w) = r.selected w) := by
  unfold Row.windowLiterals
  split <;> split <;> simp [*]

theorem regLiterals_iff :
    (∀ l ∈ r.regLiterals, k.getLsbD l.1 = l.2) ↔
      k.getLsbD 32 = true ∧ (k.getLsbD 20 = true ∧ k.getLsbD 19 = true ∧ k.getLsbD 18 = true ∧
        k.getLsbD 9 = true) ∧ k.getLsbD 8 = r.second ∧
        if r.mode = some .start then k.getLsbD 51 = false
        else k.getLsbD (hidePlace .reg) = false := by
  unfold Row.regLiterals
  split <;> simp [*, and_assoc]

variable {e : ModeEnc} {md : Mode}

theorem ramOpen_iff_literals (hmd : modeOf (configWith e) (keyView k).m = md) (hu : md ≠ .unused)
    (hr : r.mode = some md) (signal : Nat) :
    (k.getLsbD signal && window0Open (configWith e) (keyView k).m (keyView k).v) = true ↔
      ∀ l ∈ r.ramLiterals signal, k.getLsbD l.1 = l.2 := by
  rw [ramLiterals_iff, Bool.and_eq_true, window0Open_iff (hmd ▸ hu), keyView_visible, hmd, hr]
  simp

theorem windowOpen_iff_literals (hmd : modeOf (configWith e) (keyView k).m = md) (hu : md ≠ .unused)
    (hr : r.mode = some md) (w : Window) (signal : Nat) :
    (k.getLsbD signal && windowOpen (configWith e) (keyView k).m (keyView k).v w) = true ∧
        (r.isSplit = true → selectBit (configWith e) (keyView k).m w = r.selected w) ↔
      ∀ l ∈ r.windowLiterals w signal, k.getLsbD l.1 = l.2 := by
  rw [windowLiterals_iff, Bool.and_eq_true, windowOpen_iff (hmd ▸ hu) rfl, keyView_visible,
    keyView_selectBit, hmd, hr]
  simp [and_assoc]

theorem regOpen_iff_literals (hmd : modeOf (configWith e) (keyView k).m = md) (hu : md ≠ .unused)
    (hr : r.mode = some md) :
    (regSel (configWith e) (keyAccess k) &&
        regGate (configWith e) (keyView k).m (keyView k).v (keyView k).latch) = true ∧
        regNo (keyAccess k) = r.second ↔
      ∀ l ∈ r.regLiterals, k.getLsbD l.1 = l.2 := by
  have hreg : selectsReg (configWith e) (keyAccess k) = k.getLsbD 32 := by
    simp [selectsReg, configWith, defaultConfig, keyAccess_sel]
  have hlatch : (keyView k).latch = k.getLsbD 51 := rfl
  rw [regLiterals_iff, Bool.and_eq_true, regSel, Bool.and_eq_true, hreg, keyAccess_regMatch_iff,
    regGate_iff (hmd ▸ hu), keyView_visible, keyAccess_regNo, hmd, hr, hlatch]
  simp only [Option.some.injEq, Bool.not_eq_true']
  tauto

/-- What the decoder asks of a key at the slot of a row is what the row's literals ask for, in the
mode of the row. -/
theorem slotOpen_iff_literals {s : Slot} (hs : s ≠ .rst)
    (hmd : modeOf (configWith e) (keyView k).m = md)
    (hmode : s ≠ .io2 → r.mode = some md ∧ (md = .unused ↔ s = .unused)) :
    slotOpen (configWith e) (keyAccess k) (keyView k).m (keyView k).v (keyView k).latch s = true ∧
        (s = .reg → regNo (keyAccess k) = r.second) ∧
        (∀ w, s.window = some w → r.isSplit = true →
          selectBit (configWith e) (keyView k).m w = r.selected w) ↔
      ∀ l ∈ r.slotLiterals s, k.getLsbD l.1 = l.2 := by
  cases s
  case rst => exact absurd rfl hs
  case io2 =>
    have hio2 : selectsIgnored (configWith e) (keyAccess k) = k.getLsbD 31 := by
      simp [selectsIgnored, configWith, defaultConfig, keyAccess_sel]
    simp [slotOpen, Row.slotLiterals, Slot.window, hio2]
  case unused => simp [slotOpen, Row.slotLiterals, Slot.window]
  all_goals
    obtain ⟨hr, hu⟩ := hmode (by simp)
    replace hu : md ≠ .unused := by simp [hu]
    simp only [slotOpen, Row.slotLiterals, Slot.window, keyAccess_sel]
  case reg => rw [← regOpen_iff_literals hmd hu hr]; simp
  case ram1 | ram2 | ram3 => rw [← ramOpen_iff_literals hmd hu hr]; simp
  case blk1 | blk2 | blk3 | blk5 => rw [← windowOpen_iff_literals hmd hu hr]; simp

end KeyAgainstRow

theorem Instr.slot_ne_rst (i : Instr) (h : i.access ≠ none) : i.slot ≠ .rst := by
  cases i
  case reset => exact absurd rfl h
  all_goals exact Slot.noConfusion

/-- Every row but RESET and the rows of the ignored signal has a mode, and it is UNUSED exactly at
the slot of UNUSED. -/
theorem row_mode_of_slot {i : Instr} (h : i.access ≠ none) (hio2 : i.slot ≠ .io2) :
    ∃ md, i.row.mode = some md ∧ (md = .unused ↔ i.slot = .unused) := by
  cases i
  case reset => exact absurd rfl h
  case rdAnyIo2 => exact absurd rfl hio2
  case wrAnyIo2 => exact absurd rfl hio2
  all_goals exact ⟨_, rfl, by simp [Instr.slot]⟩

/-- The key holds an instruction's operation exactly when it has RST and RW as the row asks. -/
theorem instrTransaction_eq_keyView_tx_iff {i : Instr} {a : Access} (ha : i.access = some a)
    (k : Key) :
    instrTransaction i = (keyView k).tx ↔
      k.getLsbD 34 = false ∧ k.getLsbD 33 = i.row.isWrite ∧ a = keyAccess k := by
  rw [instrTransaction_eq ha, keyView_tx]
  cases k.getLsbD 34 with
  | true => cases i.row.isWrite <;> simp [accessTransaction]
  | false => simp [accessTransaction_inj, eq_comm]

/-- Under every MODE_ENC the decoder fires an instruction at its slot exactly when the key under the
row's mask is the row's match word, and the instruction carries the access of the key (R57). -/
theorem decodeSlot_iff_row_matches {e : ModeEnc} (he : e.wf = true) (k : Key) (i : Instr) :
    decodeSlot (configWith e) i.slot (keyView k) = some i ↔
      k &&& i.row.mask = rowPattern e i.row ∧ instrTransaction i = (keyView k).tx := by
  rw [row_matches_iff]
  cases ha : i.access with
  | none =>
    obtain rfl := (Instr.access_eq_none_iff i).mp ha
    have literals : Instr.reset.row.literals Instr.reset.slot = [(34, true)] := rfl
    have noMode : Instr.reset.row.mode = none := rfl
    have operation : instrTransaction .reset = .reset := rfl
    rw [decodeSlot_eq_some_reset_iff, literals, noMode, operation, List.forall_mem_singleton,
      ← keyView_tx_eq_reset_iff]
    simp [Instr.slot, eq_comm]
  | some a =>
    have hne : i.slot ≠ .rst := i.slot_ne_rst (ha ▸ Option.some_ne_none a)
    rw [decodeSlot_eq_some_iff ha, instrTransaction_eq_keyView_tx_iff ha, Row.literals, if_neg hne,
      List.forall_mem_cons, List.forall_mem_cons]
    have inMode (h : ∀ md, i.row.mode = some md → modeOf (configWith e) (keyView k).m = md)
        (hio2 : i.slot ≠ .io2) :
        i.row.mode = some (modeOf (configWith e) (keyView k).m) ∧
          (modeOf (configWith e) (keyView k).m = .unused ↔ i.slot = .unused) := by
      obtain ⟨md, hmd, hu⟩ := row_mode_of_slot (ha ▸ Option.some_ne_none _) hio2
      rw [h md hmd]
      exact ⟨hmd, hu⟩
    constructor
    · rintro ⟨-, ⟨hrst, hrw, rfl⟩, hopen, ⟨hmode, hselect, hnumber⟩⟩
      have hliterals :=
        (slotOpen_iff_literals hne rfl (inMode hmode)).mp ⟨hopen, hnumber, hselect⟩
      have hfield : ∀ md, i.row.mode = some md → k.extractLsb' 40 3 = codeOfMode e md :=
        fun md hmd => (keyView_mode_eq_iff he k md).mp (hmode md hmd)
      exact ⟨⟨⟨hrst, hrw, hliterals⟩, hfield⟩, hrst, hrw, rfl⟩
    · rintro ⟨⟨⟨-, -, hliterals⟩, hfield⟩, hrst, hrw, rfl⟩
      have hmode : ∀ md, i.row.mode = some md → modeOf (configWith e) (keyView k).m = md :=
        fun md hmd => (keyView_mode_eq_iff he k md).mpr (hfield md hmd)
      obtain ⟨hopen, hnumber, hselect⟩ :=
        (slotOpen_iff_literals hne rfl (inMode hmode)).mpr hliterals
      exact ⟨rfl, ⟨hrst, hrw, rfl⟩, hopen, ⟨hmode, hselect, hnumber⟩⟩

/-- Settles O2: `decodeSlot_iff_row_matches` under the default MODE_ENC, and an instruction fires at
its own slot only (`decodeSlot_eq_some_iff`). -/
theorem decoderAgreesWithOpcodeTable : Obligations.DecoderAgreesWithOpcodeTable := by
  intro k i
  refine ⟨?_, fun slot h => ?_⟩
  · rw [← rowPattern_default]
    exact decodeSlot_iff_row_matches (e := defaultModeEnc) (by decide) k i
  · cases ha : i.access with
    | none =>
      obtain rfl := (Instr.access_eq_none_iff i).mp ha
      exact (decodeSlot_eq_some_reset_iff.mp h).1
    | some a => exact ((decodeSlot_eq_some_iff ha).mp h).1.symm

/-- Settles O4, key by key. -/
theorem knownKeysDecode : Obligations.KnownKeysDecode :=
  ⟨rfl, rfl, rfl, rfl, rfl, rfl, rfl⟩

/-! ### The encoded key (R57) -/

theorem mem_of_litPattern_bit {w : Nat} {ls : List Literal} {n : Nat}
    (h : (litPattern w ls).getLsbD n = true) : (n, true) ∈ ls := by
  induction ls with
  | nil => simp [litPattern] at h
  | cons l ls ih =>
    rw [litPattern, BitVec.getLsbD_or, Bool.or_eq_true] at h
    rcases h with hl | hls
    · obtain ⟨m, b⟩ := l
      cases b <;> simp at hl
      simp [hl.2]
    · exact List.mem_cons_of_mem _ (ih hls)

/-- No literal of a row lies in the mode field. -/
theorem literal_not_in_modeField {i : Instr} {l : Literal} (hl : l ∈ i.row.literals i.slot) :
    modeFieldMask.getLsbD l.1 = false := by
  obtain ⟨-, -, -, apart, -, inKey⟩ := row_isOfLiterals i
  have h := congrArg (fun x : Key => x.getLsbD l.1) apart
  simpa [BitVec.getLsbD_and, getLsbD_litMask, inKey l hl, List.mem_map_of_mem hl] using h

/-- Rewriting the mode bits changes no bit outside the mode field (R57). -/
theorem rowPattern_bit (e : ModeEnc) (r : Row) {n : Nat} (hn : n < 52)
    (h : modeFieldMask.getLsbD n = false) : (rowPattern e r).getLsbD n = r.pattern.getLsbD n := by
  unfold rowPattern
  split
  · rfl
  · rw [← setWidth_and_modeFieldMask, BitVec.getLsbD_or, BitVec.getLsbD_and, BitVec.getLsbD_and,
      BitVec.getLsbD_not, h]
    simp [hn]

theorem getLsbD_encodeWith (e : ModeEnc) (i : Instr) {n : Nat} (hn : n < 52) :
    (encodeWith e i).getLsbD n = ((rowPattern e i.row).getLsbD n || (operandWord i).getLsbD n) := by
  simp [encodeWith, hn]

/-- Outside the mode field an instruction's key is the same under every MODE_ENC. -/
theorem encodeWith_bit (e : ModeEnc) (i : Instr) {n : Nat} (hn : n < 52)
    (h : modeFieldMask.getLsbD n = false) : (encodeWith e i).getLsbD n = (encode i).getLsbD n := by
  rw [encode, getLsbD_encodeWith e i hn, getLsbD_encodeWith _ i hn, rowPattern_bit e _ hn h,
    rowPattern_bit _ _ hn h]

/-- The mode field of an instruction's key holds its mode's value. -/
theorem encodeWith_modeField (e : ModeEnc) {i : Instr} {md : Mode} (hmd : i.row.mode = some md) :
    (encodeWith e i).extractLsb' 40 3 = codeOfMode e md := by
  have operand (n : Nat) (hn : 40 ≤ n) : (operandWord i).getLsbD n = false :=
    BitVec.getLsbD_of_ge _ _ (by omega)
  apply BitVec.eq_of_getLsbD_eq
  intro n hn
  have mask : modeFieldMask.getLsbD (40 + n) = true := by
    interval_cases n <;> rfl
  rw [BitVec.getLsbD_extractLsb', getLsbD_encodeWith e i (by omega), operand _ (by omega),
    rowPattern, hmd]
  simp [mask, hn, show 40 + n < 52 by omega]

/-- What a row's slot asks of the access that an instruction carries. -/
def slotSelected (a : Access) (second : Bool) : Slot → Bool
  | .rst    => true
  | .io2    => a.sel.io2
  | .unused => true
  | .ram1   => a.sel.ram1
  | .ram2   => a.sel.ram2
  | .ram3   => a.sel.ram3
  | .blk1   => a.sel.blk1
  | .blk2   => a.sel.blk2
  | .blk3   => a.sel.blk3
  | .blk5   => a.sel.blk5
  | .reg    => a.namesRegister second

/-- Well-formedness is what the slot asks of the access. -/
theorem wellFormed_eq {i : Instr} {a : Access} (ha : i.access = some a) :
    i.wellFormed = slotSelected a i.row.second i.slot := by
  cases i
  case reset => cases ha
  all_goals
    cases ha
    simp [Instr.wellFormed, Instr.slot, slotSelected, Instr.row]

/-- Each select bit of an access stands at its place of the access's word. -/
theorem accessWord_sel (a : Access) : (twAccess (accessWord a)).sel = a.sel := by
  rw [twAccess_accessWord]

theorem accessWord_off_bit (a : Access) {n : Nat} (hn : n < 16) :
    (accessWord a).getLsbD (8 + n) = a.off.getLsbD n := by
  have hoff : (accessWord a).extractLsb' 8 16 = a.off := congrArg Access.off (twAccess_accessWord a)
  rw [← hoff, BitVec.getLsbD_extractLsb', decide_eq_true hn, Bool.true_and]

theorem eq_of_mem_ramLiterals {r : Row} {signal n : Nat} (h : (n, true) ∈ r.ramLiterals signal) :
    n = signal := by
  unfold Row.ramLiterals at h
  split at h <;> simpa using h

theorem eq_of_mem_windowLiterals {r : Row} {w : Window} {signal n : Nat} (hn : n < 33)
    (h : (n, true) ∈ r.windowLiterals w signal) : n = signal := by
  have hselect : n ≠ selectPlace w := by unfold selectPlace; omega
  unfold Row.windowLiterals at h
  split at h <;> split at h <;> simpa [hselect] using h

theorem eq_of_mem_regLiterals {r : Row} {n : Nat} (h : (n, true) ∈ r.regLiterals) :
    n = 32 ∨ (∃ b ∈ [12, 11, 10, 1], n = 8 + b) ∨ (n = 8 + 0 ∧ r.second = true) := by
  simp [Row.regLiterals] at h
  simp
  tauto

/-- A register access has io3, `regmatch` and the register number in its word. -/
theorem accessWord_bit_of_namesRegister {a : Access} {second : Bool}
    (h : a.namesRegister second = true) {n : Nat}
    (hn : n = 32 ∨ (∃ b ∈ [12, 11, 10, 1], n = 8 + b) ∨ (n = 8 + 0 ∧ second = true)) :
    (accessWord a).getLsbD n = true := by
  simp only [Access.namesRegister, Bool.and_eq_true, beq_iff_eq] at h
  obtain ⟨⟨hio3, hmatch⟩, hno⟩ := h
  rcases hn with rfl | ⟨b, hb, rfl⟩ | ⟨rfl, rfl⟩
  · exact (congrArg Selects.io3 (accessWord_sel a)).trans hio3
  · rw [accessWord_off_bit a ((by decide : ∀ n ∈ [12, 11, 10, 1], n < 16) b hb)]
    exact (regMatch_iff a).mp hmatch b hb
  · rw [accessWord_off_bit a (by decide)]
    exact hno

/-- A well-formed instruction's access has the operand bits that its row asks for. -/
theorem accessWord_bit_of_literal {i : Instr} {a : Access} (ha : i.access = some a)
    (hw : i.wellFormed = true) {n : Nat} (hn : n < 33) (h : (n, true) ∈ i.row.slotLiterals i.slot) :
    (accessWord a).getLsbD n = true := by
  have sel := accessWord_sel a
  rw [wellFormed_eq ha] at hw
  generalize i.slot = s at h hw
  cases s
  case rst => cases h
  case io2 =>
    obtain rfl : n = 31 := by simpa [Row.slotLiterals] using h
    exact (congrArg Selects.io2 sel).trans hw
  case unused => cases h
  case ram1 => exact eq_of_mem_ramLiterals h ▸ (congrArg Selects.ram1 sel).trans hw
  case ram2 => exact eq_of_mem_ramLiterals h ▸ (congrArg Selects.ram2 sel).trans hw
  case ram3 => exact eq_of_mem_ramLiterals h ▸ (congrArg Selects.ram3 sel).trans hw
  case blk1 => exact eq_of_mem_windowLiterals hn h ▸ (congrArg Selects.blk1 sel).trans hw
  case blk2 => exact eq_of_mem_windowLiterals hn h ▸ (congrArg Selects.blk2 sel).trans hw
  case blk3 => exact eq_of_mem_windowLiterals hn h ▸ (congrArg Selects.blk3 sel).trans hw
  case blk5 => exact eq_of_mem_windowLiterals hn h ▸ (congrArg Selects.blk5 sel).trans hw
  case reg => exact accessWord_bit_of_namesRegister hw (eq_of_mem_regLiterals h)

/-- A bit that the row's match word sets outside the mode field is one of its literals. -/
theorem mem_literals_of_pattern_bit {i : Instr} {n : Nat} (hn : n < 40)
    (h : i.row.pattern.getLsbD n = true) : (n, true) ∈ i.row.literals i.slot := by
  have mask : modeFieldMask.getLsbD n = false := by
    interval_cases n <;> rfl
  apply mem_of_litPattern_bit (w := 52)
  rw [← (row_isOfLiterals i).pattern, BitVec.getLsbD_and, BitVec.getLsbD_not, h, mask]
  simp [show n < 52 by omega]

/-- Below RW an instruction's key is the word of its access: what the match word sets there, the
access of a well-formed instruction has. -/
theorem encodeWith_word_bit (e : ModeEnc) {i : Instr} {a : Access} (ha : i.access = some a)
    (hw : i.wellFormed = true) {n : Nat} (hn : n < 33) :
    (encodeWith e i).getLsbD n = (accessWord a).getLsbD n := by
  have mask : modeFieldMask.getLsbD n = false := by
    interval_cases n <;> rfl
  have operand : operandWord i = accessWord a := by rw [operandWord, ha]
  have hne : i.slot ≠ .rst := i.slot_ne_rst (ha ▸ Option.some_ne_none a)
  rw [getLsbD_encodeWith e i (by omega), rowPattern_bit e _ (by omega) mask, operand]
  cases hp : i.row.pattern.getLsbD n with
  | false => rfl
  | true =>
    have hmem := mem_literals_of_pattern_bit (by omega) hp
    rw [Row.literals, if_neg hne] at hmem
    have hslot : (n, true) ∈ i.row.slotLiterals i.slot := by
      simpa [show n ≠ 33 by omega] using hmem
    rw [accessWord_bit_of_literal ha hw hn hslot]
    rfl

/-- An access is read from the bits below RW (R54). -/
theorem twAccess_congr {t u : TW} (h : ∀ n < 33, t.getLsbD n = u.getLsbD n) :
    twAccess t = twAccess u := by
  have field (start len : Nat) (hle : start + len ≤ 33) :
      t.extractLsb' start len = u.extractLsb' start len := by
    apply BitVec.eq_of_getLsbD_eq
    intro n hn
    rw [BitVec.getLsbD_extractLsb', BitVec.getLsbD_extractLsb', h _ (by omega)]
  simp only [twAccess, field 8 16 (by decide), field 0 8 (by decide), h 24 (by decide),
    h 25 (by decide), h 26 (by decide), h 27 (by decide), h 28 (by decide), h 29 (by decide),
    h 30 (by decide), h 31 (by decide), h 32 (by decide)]

/-- The access of a well-formed instruction is read back from its key. -/
theorem keyAccess_encodeWith (e : ModeEnc) {i : Instr} {a : Access} (ha : i.access = some a)
    (hw : i.wellFormed = true) : keyAccess (encodeWith e i) = a := by
  rw [← twAccess_accessWord a]
  refine twAccess_congr fun n hn => ?_
  rw [BitVec.getLsbD_extractLsb', decide_eq_true (by omega), Bool.true_and, Nat.zero_add,
    encodeWith_word_bit e ha hw hn]

/-- The key of a well-formed instruction matches the instruction's row under the same MODE_ENC:
under the default one by `Laws.EncodedKeyFiresRow`, and another only changes the mode field. -/
theorem encodeWith_matches_row (e : ModeEnc) {i : Instr} (hw : i.wellFormed = true) :
    encodeWith e i &&& i.row.mask = rowPattern e i.row := by
  have hdefault : encode i &&& i.row.mask = rowPattern defaultModeEnc i.row := by
    rw [rowPattern_default]
    cases ha : i.access with
    | none =>
      obtain rfl := (Instr.access_eq_none_iff i).mp ha
      exact Laws.EncodedKeyFiresRow.reset hw
    | some a => exact Laws.EncodedKeyFiresRow.every i a ha hw
  obtain ⟨literals, -⟩ := (row_matches_iff _ i _).mp hdefault
  refine (row_matches_iff e i _).mpr ⟨fun l hl => ?_, fun md hmd => encodeWith_modeField e hmd⟩
  rw [encodeWith_bit e i ((row_isOfLiterals i).inKey l hl) (literal_not_in_modeField hl)]
  exact literals l hl

/-- The operation of a well-formed instruction is read back from its key. -/
theorem keyView_encodeWith_tx (e : ModeEnc) {i : Instr} (hw : i.wellFormed = true) :
    instrTransaction i = (keyView (encodeWith e i)).tx := by
  obtain ⟨literals, -⟩ := (row_matches_iff e i _).mp (encodeWith_matches_row e hw)
  cases ha : i.access with
  | none =>
    obtain rfl := (Instr.access_eq_none_iff i).mp ha
    exact ((keyView_tx_eq_reset_iff _).mpr (literals (34, true) (List.mem_singleton.mpr rfl))).symm
  | some a =>
    have hne : i.slot ≠ .rst := i.slot_ne_rst (ha ▸ Option.some_ne_none a)
    rw [Row.literals, if_neg hne, List.forall_mem_cons, List.forall_mem_cons] at literals
    obtain ⟨hrst, hrw, -⟩ := literals
    exact (instrTransaction_eq_keyView_tx_iff ha _).mpr
      ⟨hrst, hrw, (keyAccess_encodeWith e ha hw).symm⟩

/-- Settles O1: the encoded key matches the instruction's row and holds its operation, and there the
decoder fires the row (`decodeSlot_iff_row_matches`). -/
theorem decodeEncodeAgree : Obligations.DecodeEncodeAgree := fun e i he hw =>
  (decodeSlot_iff_row_matches he (encodeWith e i) i).mpr
    ⟨encodeWith_matches_row e hw, keyView_encodeWith_tx e hw⟩

end Sys2Proof

namespace Sys2Proof.Machine

/-! ### A row that does not fire -/

/-- The row of an instruction fires in a state, for the instruction's own operation. -/
def Fires (i : Instr) (s : State) : Prop :=
  decodeSlot s.cfg i.slot
    { tx := instrTransaction i, m := s.m, v := s.v, latch := s.latch } = some i

theorem fires_iff {i : Instr} {a : Access} (ha : i.access = some a) (s : State) :
    Fires i s ↔ slotOpen s.cfg a s.m s.v s.latch i.slot = true ∧
      i.row.Agrees i.slot s.mode s.sel (regNo a) := by
  rw [Fires, decodeSlot_eq_some_iff ha]
  exact ⟨fun ⟨_, _, h⟩ => h, fun h => ⟨rfl, rfl, h⟩⟩

theorem fires_reset (s : State) : Fires .reset s :=
  decodeSlot_eq_some_reset_iff.mpr ⟨rfl, rfl⟩

theorem noEffect_of_exec_eq {i : Instr} {s t : State} (hx : exec i s = .next t) (h : t = s) :
    noEffect i s :=
  hx.trans (congrArg _ h)

section Closed

variable {s : State} {md : Mode} {a : Access} {w : Window}

/-! Where a slot is closed to a row, the condition of the row's statement is not met. -/

theorem w0_condition_of_closed {asserted : Bool} (h1 : md ≠ .start) (h2 : md ≠ .unused)
    (h : s.mode = md → (asserted && window0Open s.cfg s.m s.v) = false) :
    ¬ (s.mode = md ∧ asserted = true ∧ s.vis .w0 = true) := by
  rintro ⟨rfl, hs, hv⟩
  simpa [window0Open_eq_vis h1 h2, hs, hv] using h rfl

theorem window_condition_of_closed (h1 : md ≠ .start) (h2 : md ≠ .unused)
    (h : s.mode = md → (selectsWindow a w && windowOpen s.cfg s.m s.v w) = false) :
    ¬ (s.mode = md ∧ selectsWindow a w = true ∧ s.vis (.win w) = true) := by
  rintro ⟨rfl, hs, hv⟩
  simpa [windowOpen_eq_vis h1 h2, hs, hv] using h rfl

theorem startW5_condition_of_closed
    (h : s.mode = .start → (selectsWindow a .w5 && windowOpen s.cfg s.m s.v .w5) = false) :
    ¬ (s.mode = .start ∧ a.sel.blk5 = true ∧ startW5Open s.cfg s.v = true) := by
  rintro ⟨hm, hs, hv⟩
  have hmode : modeOf s.cfg s.m = .start := hm
  simpa [windowOpen, selectsWindow, hmode, hs, hv] using h hm

variable {write : Bool} {number : Bool} {i : Instr}

/-- A window's row has no effect where the window is closed in the row's mode, for the row's value
of the select bit if the mode has two rows. -/
theorem noEffect_of_rowOfWindow {bit : Bool} (hi : rowOfWindow write a bit md w = some i)
    (h : s.mode = md → (md = .ramRom ∨ md = .ram2 → s.sel w = bit) →
      (selectsWindow a w && windowOpen s.cfg s.m s.v w) = false) : noEffect i s := by
  cases md
  case start =>
    cases w
    case w5 =>
      cases write <;> cases hi <;>
        exact noEffect_of_exec_eq rfl
          (if_neg (startW5_condition_of_closed fun hm => h hm (by simp)))
    all_goals cases write <;> cases hi <;> rfl
  case unused => cases write <;> cases hi
  case ramRom | ram2 =>
    cases write <;> cases bit <;> cases w <;> cases hi <;>
      exact noEffect_of_exec_eq rfl (ite_eq_right_iff.mpr fun hbit =>
        if_neg (window_condition_of_closed (by simp) (by simp) fun hm => h hm fun _ => hbit))
  all_goals
    cases write <;> cases w <;> cases hi <;>
      exact noEffect_of_exec_eq rfl
        (if_neg (window_condition_of_closed (by simp) (by simp) fun hm => h hm (by simp)))

/-- The row of a slot has no effect in a state in which the slot is closed to it. -/
theorem noEffect_of_rowAt {sel : Window → Bool} {slot : Slot}
    (hi : rowAt write a md sel number slot = some i)
    (h : s.mode = md →
      (∀ w, slot.window = some w → md = .ramRom ∨ md = .ram2 → s.sel w = sel w) →
      (slot = .reg → regNo a = number) → slotOpen s.cfg a s.m s.v s.latch slot = false) :
    noEffect i s := by
  have window (w : Window) (hw : slot.window = some w) (hm : s.mode = md)
      (hsel : md = .ramRom ∨ md = .ram2 → s.sel w = sel w) :
      slotOpen s.cfg a s.m s.v s.latch slot = false :=
    h hm (fun w' hw' => Option.some.inj (hw.symm.trans hw') ▸ hsel) (by rintro rfl; cases hw)
  cases slot
  case rst => cases hi
  case io2 => cases write <;> cases hi <;> rfl
  case unused => cases write <;> cases md <;> cases hi <;> rfl
  case ram1 | ram2 | ram3 =>
    have closed (hm : s.mode = md) := h hm nofun nofun
    cases md
    case start => cases write <;> cases hi <;> rfl
    case unused => cases write <;> cases hi
    all_goals
      cases write <;> cases hi <;>
        exact noEffect_of_exec_eq rfl (if_neg (w0_condition_of_closed (by simp) (by simp) closed))
  case blk1 | blk2 | blk3 | blk5 => exact noEffect_of_rowOfWindow hi (window _ rfl)
  case reg =>
    have closed : ¬ (s.mode = md ∧ regNo a = number ∧ s.granted a = true) :=
      fun ⟨hm, hno, hg⟩ => Bool.false_ne_true ((h hm nofun fun _ => hno).symm.trans hg)
    cases write <;> cases number <;> cases md <;> cases hi <;>
      exact noEffect_of_exec_eq rfl (if_neg closed)

end Closed

/-- An instruction whose row does not fire completes and changes nothing (log entry 11). -/
theorem noEffect_of_not_fires {i : Instr} {s : State} (h : ¬ Fires i s) : noEffect i s := by
  cases ha : i.access with
  | none =>
    obtain rfl := (Instr.access_eq_none_iff i).mp ha
    exact absurd (fires_reset s) h
  | some a =>
    rw [fires_iff ha] at h
    have in_mode (md : Mode) (hmd : ∀ md', i.row.mode = some md' → md = md') : noEffect i s := by
      refine noEffect_of_rowAt (rowAt_of_agrees (sel := i.row.selected) (number := i.row.second) ha
        ⟨hmd, fun _ _ _ => rfl, fun _ => rfl⟩) fun hm hsel hno => ?_
      refine Bool.eq_false_iff.mpr fun hopen =>
        h ⟨hopen, hm ▸ hmd, fun w hw hsplit => hsel w hw ?_, hno⟩
      simp only [Row.isSplit, Bool.or_eq_true, beq_iff_eq] at hsplit
      exact hsplit.imp (hmd _) (hmd _)
    cases hm : i.row.mode with
    | none => exact in_mode s.mode (by simp [hm])
    | some md => exact in_mode md (by simp [hm])

/-- Settles O37: by O2 a key that does not match the row does not fire it, and a row that does not
fire has no effect (`noEffect_of_not_fires`). -/
theorem rowsActOnlyWhenMatched : Obligations.RowsActOnlyWhenMatched := by
  intro s i hc hkey
  refine noEffect_of_not_fires fun hfires => hkey ?_
  have hfires' : decodeSlot defaultConfig i.slot
      (keyView (s.key (transactionWord (instrTransaction i)))) = some i := by
    rw [keyView_key, twTransaction_transactionWord, ← hc]
    exact hfires
  exact ((decoderAgreesWithOpcodeTable _ i).1.mp hfires').1

/-! ### An access with at most one select signal -/

/-- The select signal that a slot asks for. -/
def slotSignal (c : Config) (a : Access) : Slot → Bool
  | .rst    => false
  | .io2    => selectsIgnored c a
  | .unused => false
  | .ram1   => a.sel.ram1
  | .ram2   => a.sel.ram2
  | .ram3   => a.sel.ram3
  | .blk1   => a.sel.blk1
  | .blk2   => a.sel.blk2
  | .blk3   => a.sel.blk3
  | .blk5   => a.sel.blk5
  | .reg    => selectsReg c a

theorem slotOpen_of_not_signalled {c : Config} {a : Access} {slot : Slot} (hslot : slot ≠ .unused)
    (h : slotSignal c a slot = false) (m v : Byte) (latch : Bool) :
    slotOpen c a m v latch slot = false := by
  cases slot <;> simp_all [slotSignal, slotOpen, regSel]

/-- The asserted signals, counted by the slots that ask for them. -/
theorem signalsAsserted_eq_countP (c : Config) (a : Access) :
    signalsAsserted a.sel = Slot.inOrder.countP (slotSignal c a) := by
  have ite_eq_toNat (b : Bool) : (if b = true then 1 else 0) = b.toNat := by cases b <;> rfl
  simp only [Slot.inOrder, List.countP_cons, List.countP_nil, ite_eq_toNat]
  cases h : c.regSignal <;>
    simp only [signalsAsserted, slotSignal, selectsIgnored, selectsReg, h, Bool.toNat_false] <;>
    omega

/-- An access with at most one signal asserted meets the signal of at most one slot. -/
theorem only_slot_signalled (c : Config) {a : Access} (h : signalsAsserted a.sel ≤ 1) :
    ∃ only, ∀ slot, slot ≠ only → slotSignal c a slot = false := by
  have hmem (slot : Slot) (hs : slotSignal c a slot = true) :
      slot ∈ Slot.inOrder.filter (slotSignal c a) :=
    List.mem_filter.mpr ⟨by cases slot <;> decide, hs⟩
  rw [signalsAsserted_eq_countP c, List.countP_eq_length_filter] at h
  rcases e : Slot.inOrder.filter (slotSignal c a) with _ | ⟨only, _ | ⟨_, _⟩⟩
  · refine ⟨.rst, fun slot _ => Bool.eq_false_iff.mpr fun hs => ?_⟩
    simpa [e] using hmem slot hs
  · refine ⟨only, fun slot hne => Bool.eq_false_iff.mpr fun hs => hne ?_⟩
    simpa [e] using hmem slot hs
  · simp [e] at h

/-! ### The loop when only one slot can fire -/

/-- The row that fires at a slot in a state. -/
def State.fired (s : State) (t : TW) (slot : Slot) : Option Instr :=
  decodeSlot s.cfg slot (keyView (s.key t))

/-- The first row that fires, executed; the state itself if none fires. -/
def State.execFirst (s : State) (t : TW) (slots : List Slot) : Result :=
  ((slots.filterMap (s.fired t)).head?).elim (.next s) fun i => exec i s

/-- The loop passes over slots at which no row fires. -/
theorem runSlots_none_fire {t : TW} {slots : List Slot} {s : State}
    (h : ∀ slot ∈ slots, s.fired t slot = none) : runSlots t slots s = .next s := by
  induction slots with
  | nil => rfl
  | cons slot slots ih =>
    rw [List.forall_mem_cons] at h
    rw [runSlots_none h.1, ih h.2]

/-- When no slot but one can fire under the parameters of the state, the loop runs the first row
that fires, if there is one. -/
theorem runSlots_eq_execFirst_of_only {t : TW} {slots : List Slot} {s : State} {only : Slot}
    (hnodup : slots.Nodup)
    (h : ∀ u : State, u.cfg = s.cfg → ∀ slot ∈ slots, slot ≠ only → u.fired t slot = none) :
    runSlots t slots s = s.execFirst t slots := by
  unfold State.execFirst
  induction slots with
  | nil => rfl
  | cons slot slots ih =>
    rw [List.nodup_cons] at hnodup
    cases hd : s.fired t slot with
    | none =>
      rw [runSlots_none hd, List.filterMap_cons_none hd]
      exact ih hnodup.2 fun u hu x hx => h u hu x (List.mem_cons_of_mem _ hx)
    | some i =>
      have honly : slot = only := by
        by_contra hne
        cases hd.symm.trans (h s rfl slot List.mem_cons_self hne)
      obtain ⟨u, hu, hframe⟩ := exec_next i s
      have hrest : ∀ x ∈ slots, u.fired t x = none := fun x hx =>
        h u hframe.cfg x (List.mem_cons_of_mem _ hx) fun hx' => hnodup.1 (honly ▸ hx' ▸ hx)
      rw [runSlots_some hd hu, runSlots_none_fire hrest, List.filterMap_cons_some hd]
      exact hu.symm

/-! ### The rows of the slots before the windows' -/

/-- The rows of the ignored signal and of UNUSED have the action none (R59, R108, R138). -/
theorem noEffect_of_lead {write : Bool} {a : Access} {md : Mode} {sel : Window → Bool}
    {number : Bool} {slot : Slot} {i : Instr} (hi : rowAt write a md sel number slot = some i)
    (hslot : slot = .io2 ∨ slot = .unused) (s : State) : noEffect i s := by
  rcases hslot with rfl | rfl
  · cases write <;> cases hi <;> rfl
  · cases write <;> cases md <;> cases hi <;> rfl

theorem fired_eq {t : TW} (ht : t.getLsbD 34 = false) (s : State) (slot : Slot) :
    s.fired t slot =
      if slotOpen s.cfg (twAccess t) s.m s.v s.latch slot then
        rowAt (t.getLsbD 33) (twAccess t) s.mode s.sel (regNo (twAccess t)) slot else none := by
  have htx : twTransaction t = accessTransaction (t.getLsbD 33) (twAccess t) := by
    rw [twTransaction, ht, if_neg Bool.false_ne_true, accessTransaction]
  rw [State.fired, keyView_key, htx, decodeSlot_access]
  rfl

/-- In UNUSED only the slots of the ignored signal and of UNUSED are open. -/
theorem slotOpen_unused {s : State} (h : s.mode = .unused) (a : Access) {slot : Slot}
    (hopen : slotOpen s.cfg a s.m s.v s.latch slot = true) : slot = .io2 ∨ slot = .unused := by
  have hm : modeOf s.cfg s.m = .unused := h
  cases slot <;> simp_all [slotOpen, window0Open, windowOpen, regGate]

/-- What fires before the windows' slots has no effect, and so has all that fires in UNUSED. -/
theorem noEffect_of_fired {t : TW} (ht : t.getLsbD 34 = false) {s : State} {slot : Slot} {i : Instr}
    (hi : s.fired t slot = some i) (hslot : slot = .io2 ∨ slot = .unused ∨ s.mode = .unused) :
    noEffect i s := by
  rw [fired_eq ht, Option.ite_none_right_eq_some] at hi
  obtain ⟨hopen, hrow⟩ := hi
  rcases hslot with h | h | h
  · exact noEffect_of_lead hrow (.inl h) s
  · exact noEffect_of_lead hrow (.inr h) s
  · exact noEffect_of_lead hrow (slotOpen_unused h _ hopen) s

/-- No row fires at a slot whose signal is not asserted. -/
theorem fired_of_not_signalled {t : TW} (ht : t.getLsbD 34 = false) (s : State) {slot : Slot}
    (hslot : slot ≠ .unused) (h : slotSignal s.cfg (twAccess t) slot = false) :
    s.fired t slot = none := by
  rw [fired_eq ht, slotOpen_of_not_signalled hslot h, if_neg Bool.false_ne_true]

theorem execFirst_of_noEffect {t : TW} {slots : List Slot} {s : State}
    (h : ∀ slot ∈ slots, ∀ i, s.fired t slot = some i → noEffect i s) :
    s.execFirst t slots = .next s := by
  unfold State.execFirst
  cases hrows : slots.filterMap (s.fired t) with
  | nil => rfl
  | cons i is =>
    have hfirst : i ∈ slots.filterMap (s.fired t) := hrows ▸ List.mem_cons_self
    obtain ⟨slot, hmem, hi⟩ := List.mem_filterMap.mp hfirst
    exact h slot hmem i hi

/-- The slots of the windows and of the register port. -/
def routedSlots : List Slot :=
  [.ram1, .ram2, .ram3, .blk1, .blk2, .blk3, .blk5, .reg]

theorem runSlots_eq_execFirst_of_access {t : TW} (ht : t.getLsbD 34 = false) {s : State}
    (hone : signalsAsserted (twAccess t).sel ≤ 1) :
    runSlots t Slot.inOrder s = s.execFirst t Slot.inOrder := by
  by_cases hm : s.mode = .unused
  · rw [runSlots_unused ht hm]
    exact (execFirst_of_noEffect fun _ _ _ hi => noEffect_of_fired ht hi (.inr (.inr hm))).symm
  obtain ⟨only, honly⟩ := only_slot_signalled s.cfg hone
  have routed (u : State) (hu : u.cfg = s.cfg) (slot : Slot) (hmem : slot ∈ routedSlots)
      (hne : slot ≠ only) : u.fired t slot = none :=
    fired_of_not_signalled ht u (by rintro rfl; simp [routedSlots] at hmem) (hu ▸ honly slot hne)
  have lead : runSlots t Slot.inOrder s = runSlots t routedSlots s := runSlots_lead ht _ s
  have hrst : s.fired t .rst = none := fired_of_not_signalled ht s (by simp) rfl
  have hunused : s.fired t .unused = none := by
    rw [fired_eq ht]
    cases t.getLsbD 33 <;> simp [rowAt, hm]
  cases hio2 : s.fired t .io2 with
  | none =>
    have rows : Slot.inOrder.filterMap (s.fired t) = routedSlots.filterMap (s.fired t) := by
      simp only [Slot.inOrder, List.filterMap_cons_none hrst, List.filterMap_cons_none hio2,
        List.filterMap_cons_none hunused, routedSlots]
    rw [lead, runSlots_eq_execFirst_of_only (by decide) routed, State.execFirst, State.execFirst,
      rows]
  | some i =>
    have hio2_only : only = .io2 := by
      by_contra hne
      cases hio2.symm.trans (fired_of_not_signalled ht s (by simp) (honly .io2 (Ne.symm hne)))
    have off : ∀ slot ∈ routedSlots, s.fired t slot = none := fun slot hmem =>
      routed s rfl slot hmem (by rintro rfl; simp [routedSlots, hio2_only] at hmem)
    rw [lead, runSlots_none_fire off]
    refine (execFirst_of_noEffect fun slot _ i hi => noEffect_of_fired ht hi ?_).symm
    by_contra hnot
    rw [not_or, not_or] at hnot
    cases hi.symm.trans (fired_of_not_signalled ht s hnot.2.1 (honly slot (hio2_only ▸ hnot.1)))

/-- RESET, or an access with at most one signal asserted, is its first row and nothing else. -/
theorem runSlots_eq_execFirst {t : TW} {s : State}
    (hone : t.getLsbD 34 = true ∨ signalsAsserted (twAccess t).sel ≤ 1) :
    runSlots t Slot.inOrder s = s.execFirst t Slot.inOrder := by
  cases ht : t.getLsbD 34 with
  | true =>
    have hreset : twTransaction t = .reset := if_pos ht
    have hfired : s.fired t .rst = some .reset := by
      rw [State.fired, keyView_key, hreset]; rfl
    rw [runSlots_reset hreset, State.execFirst, Slot.inOrder, List.filterMap_cons_some hfired]
    rfl
  | false =>
    exact runSlots_eq_execFirst_of_access ht (hone.resolve_left (Bool.eq_false_iff.mp ht))

/-- Settles O39: the rows that fire for the key are those that fire in the state in which the
operation begins, and the loop executes the first of them (`runSlots_eq_execFirst`). -/
theorem stepRunsDecodedInstruction : Obligations.StepRunsDecodedInstruction := by
  intro s t rest hp hone
  have hstep : step s = ((decodeRows s.cfg (keyView (s.key t))).head?).elim
      (.next (s.begin t rest)) fun i => exec i (s.begin t rest) :=
    (step_transact hp).trans (runSlots_eq_execFirst (s := s.begin t rest) hone)
  exact ⟨fun i is h => by rw [hstep, h]; rfl, fun h => by rw [hstep, h]; rfl⟩

/-! ### The step and the procedures (R90, R120, R165) -/

/-- Window 0 written once for each of its signals is window 0 written once, in a canonical RAM: the
slots of R124 carry out both. -/
theorem stmtWriteRam_thrice {s : State} (hwf : memWf s.ram = true) (h1 : s.mode ≠ .start)
    (h2 : s.mode ≠ .unused) (a : Access) :
    ((s.stmtWriteRam a.sel.ram1 a).stmtWriteRam a.sel.ram2 a).stmtWriteRam a.sel.ram3 a =
      s.stmtWriteW0 a := by
  have ht : twTransaction (transactionWord (.write a)) = .write a := twTransaction_transactionWord _
  have ram (u : State) (hu : u.mode = s.mode) {slot : Slot} {asserted : Bool}
      (hslot : slot = .ram1 ∧ asserted = a.sel.ram1 ∨ slot = .ram2 ∧ asserted = a.sel.ram2 ∨
        slot = .ram3 ∧ asserted = a.sel.ram3) (slots : List Slot) :
      runSlots (transactionWord (.write a)) (slot :: slots) u =
        runSlots (transactionWord (.write a)) slots (u.stmtWriteRam asserted a) :=
    runSlots_writeRam ht (hu ▸ h1) (hu ▸ h2) hslot slots
  have once := runSlots_writeW0 ht hwf h1 h2 []
  rw [ram _ rfl (.inl ⟨rfl, rfl⟩), ram _ (by simp) (.inr (.inl ⟨rfl, rfl⟩)),
    ram _ (by simp) (.inr (.inr ⟨rfl, rfl⟩)), runSlots_nil, runSlots_nil] at once
  exact Host.Outcome.next.inj once

theorem writeSlots_eq_writeProcedure {s : State} (hwf : memWf s.ram = true) (a : Access) :
    s.writeSlots a = s.writeProcedure a := by
  by_cases h1 : s.mode = .start
  · rw [writeSlots_start h1]
    simp only [State.writeProcedure, h1]
  by_cases h2 : s.mode = .unused
  · rw [writeSlots_unused h2]
    simp only [State.writeProcedure, h2]
  · rw [writeSlots_routed h1 h2, stmtWriteRam_thrice hwf h1 h2]
    cases h : s.mode
    case start => exact absurd h h1
    case unused => exact absurd h h2
    all_goals simp only [State.writeProcedure, h]

/-- Settles O40: a step is the procedures slot by slot (`step_read`, `step_write`, `step_reset`),
and in a canonical RAM the three slots of window 0 are its one statement. -/
theorem stepFollowsProcedures : Obligations.StepFollowsProcedures := by
  intro s t rest hwf hp
  have hram : memWf s.ram = true := (Bool.and_eq_true_iff.mp hwf).1
  cases ht : twTransaction t with
  | reset => exact step_reset hp ht
  | read a => exact step_read hp ht
  | write a =>
    exact (step_write hp ht).trans
      (congrArg _ (writeSlots_eq_writeProcedure (s := s.begin t rest) hram a))

/-! ### Mode UNUSED -/

/-- In UNUSED a READ or a WRITE is taken off the queue and has no other effect (R108, R138). -/
theorem step_unused {s : State} {w : TW} {rest : List TW} (h : s.mode = .unused)
    (hp : s.pending = w :: rest) (hw : notReset w = true) : step s = .next (s.begin w rest) :=
  (step_transact hp).trans (runSlots_unused (s := s.begin w rest) (by simpa [notReset] using hw) h)

/-- What an access in UNUSED leaves unchanged: all but the queue and the result. -/
structure RegistersAndStoresKept (s t : State) : Prop where
  m     : t.m = s.m
  v     : t.v = s.v
  latch : t.latch = s.latch
  ram   : t.ram = s.ram
  rom   : t.rom = s.rom
  cfg   : t.cfg = s.cfg

theorem RegistersAndStoresKept.refl (s : State) : RegistersAndStoresKept s s :=
  ⟨rfl, rfl, rfl, rfl, rfl, rfl⟩

theorem RegistersAndStoresKept.trans {s t u : State} (h : RegistersAndStoresKept s t)
    (k : RegistersAndStoresKept t u) : RegistersAndStoresKept s u :=
  ⟨k.m.trans h.m, k.v.trans h.v, k.latch.trans h.latch, k.ram.trans h.ram, k.rom.trans h.rom,
    k.cfg.trans h.cfg⟩

/-- Without a RESET in the queue a step in UNUSED keeps everything that is not the driver's, and
leaves no RESET in the queue. -/
theorem step_unused_kept {s u : State} (h : s.mode = .unused)
    (hq : s.pending.all notReset = true) (hstep : step s = .next u) :
    RegistersAndStoresKept s u ∧ u.pending.all notReset = true := by
  cases hp : s.pending with
  | nil =>
    cases (step_idle hp).symm.trans hstep
    exact ⟨.refl s, hq⟩
  | cons w rest =>
    rw [hp, List.all_cons, Bool.and_eq_true] at hq
    cases (step_unused h hp hq.1).symm.trans hstep
    exact ⟨⟨rfl, rfl, rfl, rfl, rfl, rfl⟩, hq.2⟩

/-- The same along a run: UNUSED is left by no step. -/
theorem run_unused_kept {n : Nat} {s t : State} (h : s.mode = .unused)
    (hq : s.pending.all notReset = true) (hrun : run n s = .next t) :
    RegistersAndStoresKept s t := by
  induction n generalizing s with
  | zero => cases hrun; exact .refl _
  | succ n ih =>
    obtain ⟨u, hu, hrest⟩ := run_succ hrun
    obtain ⟨hk, hqu⟩ := step_unused_kept h hq hu
    exact hk.trans (ih ((State.mode_congr hk.m hk.cfg).trans h) hqu hrest)

/-- Settles O44, by induction over the run (`run_unused_kept`); a READ answered there is one step in
UNUSED. -/
theorem unusedEndsOnlyAtReset : Obligations.UnusedEndsOnlyAtReset := by
  intro s n t hm hq hrun
  obtain ⟨m, v, latch, ram, rom, cfg⟩ := run_unused_kept hm hq hrun
  refine ⟨⟨m, v, latch, ram, rom⟩, fun w rest a hp hw => ?_⟩
  have hnot : notReset w = true := by
    rw [notReset, bit34_of_ne_reset (by simp [hw]), Bool.not_false]
  rw [step_unused ((State.mode_congr m cfg).trans hm) hp hnot, State.begin, hw, initialOut]

/-! ### The I/O signal that no rule examines -/

/-- The access with its io2 signal set to `b`. -/
def withIo2 (a : Access) (b : Bool) : Access :=
  { a with sel := { a.sel with io2 := b } }

@[simp] theorem stmtReadW0_withIo2 (s : State) (a : Access) (b : Bool) :
    s.stmtReadW0 (withIo2 a b) = s.stmtReadW0 a := rfl

@[simp] theorem stmtReadWindow_withIo2 (s : State) (w : Window) (a : Access) (b : Bool) :
    s.stmtReadWindow w (withIo2 a b) = s.stmtReadWindow w a := by
  cases w <;> rfl

@[simp] theorem stmtReadStartW5_withIo2 (s : State) (a : Access) (b : Bool) :
    s.stmtReadStartW5 (withIo2 a b) = s.stmtReadStartW5 a := rfl

@[simp] theorem stmtWriteRam_withIo2 (s : State) (asserted : Bool) (a : Access) (b : Bool) :
    s.stmtWriteRam asserted (withIo2 a b) = s.stmtWriteRam asserted a := rfl

@[simp] theorem stmtWriteWindow_withIo2 (s : State) (w : Window) (a : Access) (b : Bool) :
    s.stmtWriteWindow w (withIo2 a b) = s.stmtWriteWindow w a := by
  cases w <;> rfl

@[simp] theorem stmtWriteStartW5_withIo2 (s : State) (a : Access) (b : Bool) :
    s.stmtWriteStartW5 (withIo2 a b) = s.stmtWriteStartW5 a := rfl

/-- The register port looks at io2 only if REG_SIGNAL names it (R51, R81). -/
theorem granted_withIo2 {s : State} (hc : s.cfg.regSignal = .io3) (a : Access) (b : Bool) :
    s.granted (withIo2 a b) = s.granted a := by
  simp only [State.granted, regSel, selectsReg, hc]
  rfl

theorem stmtReadReg_withIo2 {s : State} (hc : s.cfg.regSignal = .io3) (a : Access) (b : Bool) :
    s.stmtReadReg (withIo2 a b) = s.stmtReadReg a := by
  rw [State.stmtReadReg, granted_withIo2 hc]
  rfl

theorem stmtWriteReg_withIo2 {s : State} (hc : s.cfg.regSignal = .io3) (a : Access) (b : Bool) :
    s.stmtWriteReg (withIo2 a b) = s.stmtWriteReg a := by
  rw [State.stmtWriteReg, granted_withIo2 hc]
  rfl

@[simp] theorem stmtReadW0_cfg (s : State) (a : Access) : (s.stmtReadW0 a).cfg = s.cfg :=
  (ReadEffect.stmtReadW0 s a).cfg

@[simp] theorem stmtReadWindow_cfg (s : State) (w : Window) (a : Access) :
    (s.stmtReadWindow w a).cfg = s.cfg :=
  (ReadEffect.stmtReadWindow s w a).cfg

@[simp] theorem stmtReadStartW5_cfg (s : State) (a : Access) :
    (s.stmtReadStartW5 a).cfg = s.cfg :=
  (ReadEffect.stmtReadStartW5 s a).cfg

theorem readProcedure_withIo2 {s : State} (hc : s.cfg.regSignal = .io3) (a : Access) (b : Bool) :
    s.readProcedure (withIo2 a b) = s.readProcedure a := by
  by_cases h1 : s.mode = .start
  · simp [readProcedure_start h1, stmtReadReg_withIo2, hc]
  by_cases h2 : s.mode = .unused
  · simp [readProcedure_unused h2]
  · simp [readProcedure_routed h1 h2, stmtReadReg_withIo2, hc]

theorem writeSlots_withIo2 {s : State} (hc : s.cfg.regSignal = .io3) (a : Access) (b : Bool) :
    s.writeSlots (withIo2 a b) = s.writeSlots a := by
  have sel : (withIo2 a b).sel.ram1 = a.sel.ram1 ∧ (withIo2 a b).sel.ram2 = a.sel.ram2 ∧
      (withIo2 a b).sel.ram3 = a.sel.ram3 := ⟨rfl, rfl, rfl⟩
  by_cases h1 : s.mode = .start
  · simp [writeSlots_start h1, stmtWriteReg_withIo2, hc]
  by_cases h2 : s.mode = .unused
  · simp [writeSlots_unused h2]
  · simp [writeSlots_routed h1 h2, stmtWriteReg_withIo2, hc, sel]

/-- Settles O59: the two operations begin alike, and the procedures look at no io2. -/
theorem ignoredSignalHasNoEffect : Obligations.IgnoredSignalHasNoEffect := by
  intro s w w' rest a b hc hkind
  have begin_eq (h : initialOut (twTransaction w) = initialOut (twTransaction w')) :
      State.begin { s with pending := w :: rest } w rest =
        State.begin { s with pending := w' :: rest } w' rest := by
    simp only [State.begin, h]
  rcases hkind with ⟨hw, hw'⟩ | ⟨hw, hw'⟩
  · rw [step_read rfl hw, step_read rfl hw', begin_eq (by simp only [hw, hw', initialOut])]
    exact congrArg _ (readProcedure_withIo2
      (s := State.begin { s with pending := w' :: rest } w' rest) hc a b).symm
  · rw [step_write rfl hw, step_write rfl hw', begin_eq (by simp only [hw, hw', initialOut])]
    exact congrArg _ (writeSlots_withIo2
      (s := State.begin { s with pending := w' :: rest } w' rest) hc a b).symm

end Sys2Proof.Machine

/-! PROOFS. The AddressTranslator (40_address_translator.md): a physical offset is three bit fields
side by side, from which follow its formula on naturals (R70, R72), the sum of the fields (R71),
that it is one-to-one and onto the store (R74), and the permutation of the blocks (R75). -/

namespace Sys2Proof.Machine

/-! ### SWAP -/

theorem swapField_eq_extractLsb' (v : Byte) : swapField v = v.extractLsb' 5 2 := by
  ext i hi
  interval_cases i <;> simp [swapField, swapShift, swapMask]

theorem swapField_toNat (v : Byte) : (swapField v).toNat = (v.toNat >>> 5) &&& 0b11 := by
  rw [swapField_eq_extractLsb', BitVec.extractLsb'_toNat]
  exact (Nat.and_two_pow_sub_one_eq_mod (v.toNat >>> 5) 2).symm

/-- `0x9F` keeps every bit of `V` but SWAP (R17). -/
theorem swapField_and_not_swap (v : Byte) : swapField (v &&& 0x9F) = 0 := by
  have hmask : (0x9F : Byte).extractLsb' 5 2 = 0 := by decide
  rw [swapField_eq_extractLsb', BitVec.extractLsb'_and, hmask]
  exact BitVec.and_zero

/-! ### The in-block offset -/

theorem off13_toNat (a : Access) : (off13 a).toNat = a.off.toNat % 0x2000 := by
  rw [off13, BitVec.toNat_setWidth, BitVec.toNat_and]
  have hmask : a.off.toNat &&& off13Mask.toNat = a.off.toNat % 0x2000 :=
    Nat.and_two_pow_sub_one_eq_mod a.off.toNat 13
  rw [hmask]
  exact Nat.mod_mod ..

/-! ### The three fields of a physical offset -/

/-- Two joined bit fields determine each other's parts. -/
theorem append_eq_append_iff {n m : Nat} {x x' : BitVec n} {y y' : BitVec m} :
    x ++ y = x' ++ y' ↔ x = x' ∧ y = y' := by
  constructor
  · intro h
    have hx := congrArg (BitVec.extractLsb' m n) h
    have hy := congrArg (BitVec.extractLsb' 0 m) h
    rw [BitVec.extractLsb'_append_eq_left, BitVec.extractLsb'_append_eq_left] at hx
    rw [BitVec.extractLsb'_append_eq_right, BitVec.extractLsb'_append_eq_right] at hy
    exact ⟨hx, hy⟩
  · rintro ⟨rfl, rfl⟩
    rfl

/-- Cutting the three fields to the 19 bits of a physical offset drops bits of the bank only. -/
theorem setWidth_fields (bank : BitVec 7) (block : BitVec 2) (off : BitVec 13) :
    (bank ++ block ++ off).setWidth 19 = bank.setWidth 4 ++ block ++ off := by
  change (bank ++ block ++ off).setWidth (4 + 2 + 13) = _
  rw [BitVec.setWidth_append_of_eq rfl, BitVec.setWidth_append_of_eq rfl, BitVec.setWidth_eq,
    BitVec.setWidth_eq]

theorem fields_toNat {n : Nat} (bank : BitVec n) (block : BitVec 2) (off : BitVec 13) :
    (bank ++ block ++ off).toNat =
      (bank.toNat <<< 15) ||| (block.toNat <<< 13) ||| off.toNat := by
  rw [BitVec.toNat_append, BitVec.toNat_append, Nat.shiftLeft_or_distrib, ← Nat.shiftLeft_add]

/-- The fields do not overlap, so that joining them adds them (R71). -/
theorem fields_toNat_eq_sum {n : Nat} (bank : BitVec n) (block : BitVec 2) (off : BitVec 13) :
    (bank ++ block ++ off).toNat =
      bank.toNat * 0x8000 + block.toNat * 0x2000 + off.toNat := by
  rw [BitVec.toNat_append, BitVec.toNat_append, ← Nat.shiftLeft_add_eq_or_of_lt off.isLt,
    ← Nat.shiftLeft_add_eq_or_of_lt block.isLt, Nat.shiftLeft_eq, Nat.shiftLeft_eq]
  omega

/-- Every physical offset is the join of its own three fields (R74). -/
theorem fields_of_offset (p : PhysAddr) :
    p.extractLsb' 15 4 ++ p.extractLsb' 13 2 ++ p.extractLsb' 0 13 = p := by
  have hupper : p.extractLsb' 15 4 ++ p.extractLsb' 13 2 = p.extractLsb' 13 6 :=
    BitVec.extractLsb'_append_extractLsb'_eq_extractLsb' rfl
  rw [hupper]
  exact BitVec.extractLsb'_append_extractLsb'

/-- `T(bank, block, off)` is the join of the bank, the effective block and the offset (R70). -/
theorem translate_eq_append (c : Config) (v : Byte) (bank : BitVec 7) (block : BitVec 2)
    (off : BitVec 13) :
    translate c v bank block off =
      (bank &&& c.bankMask).setWidth 4 ++ (block ^^^ swapField v) ++ off := by
  rw [← setWidth_fields, BitVec.setWidth_append_append_eq_shiftLeft_setWidth_or, translate,
    bankShift, blockShift]

/-- Two physical offsets are equal exactly when their three fields are. -/
theorem translate_eq_translate_iff {c c' : Config} {v v' : Byte} {b b' : BitVec 7}
    {k k' : BitVec 2} {o o' : BitVec 13} :
    translate c v b k o = translate c' v' b' k' o' ↔
      (b &&& c.bankMask).setWidth 4 = (b' &&& c'.bankMask).setWidth 4 ∧
        k ^^^ swapField v = k' ^^^ swapField v' ∧ o = o' := by
  rw [translate_eq_append, translate_eq_append, append_eq_append_iff, append_eq_append_iff,
    and_assoc]

/-! ### The default BANK_MASK -/

/-- The default BANK_MASK takes the bank's low four bits, which are the bits that fit the store. -/
theorem setWidth_and_bankMask (bank : BitVec 7) :
    (bank &&& 0xF).setWidth 4 = bank.setWidth 4 := by
  have hmask : (0xF : BitVec 7).setWidth 4 = BitVec.allOnes 4 := by decide
  rw [BitVec.setWidth_and, hmask, BitVec.and_allOnes]

theorem translate_default {c : Config} (hc : c.bankMask = 0xF) (v : Byte) (bank : BitVec 7)
    (block : BitVec 2) (off : BitVec 13) :
    translate c v bank block off = bank.setWidth 4 ++ (block ^^^ swapField v) ++ off := by
  rw [translate_eq_append, hc, setWidth_and_bankMask]

/-- Banks below 16 are told apart by their low four bits. -/
theorem setWidth_bank_injective {b b' : BitVec 7} (hb : b.toNat < 16) (hb' : b'.toNat < 16)
    (h : b.setWidth 4 = b'.setWidth 4) : b = b' := by
  have hn := congrArg BitVec.toNat h
  rw [BitVec.toNat_setWidth, BitVec.toNat_setWidth] at hn
  exact BitVec.eq_of_toNat_eq (by omega)

theorem translate_injective {c : Config} (hc : c.bankMask = 0xF) {v : Byte} {b b' : BitVec 7}
    {k k' : BitVec 2} {o o' : BitVec 13} (hb : b.toNat < 16) (hb' : b'.toNat < 16)
    (h : translate c v b k o = translate c v b' k' o') : b = b' ∧ k = k' ∧ o = o' := by
  obtain ⟨hbank, hblock, hoff⟩ := translate_eq_translate_iff.mp h
  rw [hc, setWidth_and_bankMask, setWidth_and_bankMask] at hbank
  exact ⟨setWidth_bank_injective hb hb' hbank, (BitVec.xor_left_inj _).mp hblock, hoff⟩

/-- The fields of a physical offset, the swap undone, are where it comes from. -/
theorem translate_of_fields {c : Config} (hc : c.bankMask = 0xF) (v : Byte) (p : PhysAddr) :
    translate c v ((p.extractLsb' 15 4).setWidth 7) (p.extractLsb' 13 2 ^^^ swapField v)
      (p.extractLsb' 0 13) = p := by
  have hbank : ((p.extractLsb' 15 4).setWidth 7).setWidth 4 = p.extractLsb' 15 4 :=
    BitVec.setWidth_setWidth_of_le _ (by decide)
  rw [translate_default hc, hbank, BitVec.xor_assoc, BitVec.xor_self, BitVec.xor_zero,
    fields_of_offset]

/-! ### The obligations -/

/-- Settles O9: both formulas are the join of the three fields, the second before the cut. -/
theorem translateFormula : Obligations.TranslateFormula := by
  intro c v bank block off hc
  have hblock : (block ^^^ swapField v).toNat =
      block.toNat ^^^ ((v.toNat >>> 5) &&& 0b11) := by
    rw [BitVec.toNat_xor, swapField_toNat]
  constructor
  · have hbank : (bank.setWidth 4).toNat = bank.toNat &&& 0xF :=
      (BitVec.toNat_setWidth ..).trans (Nat.and_two_pow_sub_one_eq_mod bank.toNat 4).symm
    rw [translate_default hc, fields_toNat, hblock, hbank]
  · rw [translate_default hc, ← setWidth_fields, BitVec.toNat_setWidth, fields_toNat, hblock]

/-- Settles O10: two images are equal field by field, and the fields of any offset have a source. -/
theorem translateBijective : Obligations.TranslateBijective := by
  intro c v hc
  refine ⟨fun _ _ _ _ _ _ hb hb' h => translate_injective hc hb hb' h,
    fun b k o => (translate c v b k o).isLt, fun p => ?onto, fun b k o => ?wrap⟩
  case onto =>
    have hbank : ((p.extractLsb' 15 4).setWidth 7).toNat < 16 := by
      rw [BitVec.toNat_setWidth_of_le (by decide)]
      exact (p.extractLsb' 15 4).isLt
    exact ⟨_, _, _, hbank, translate_of_fields hc v p⟩
  case wrap => rw [← hc, translate_bank_masked]

/-- Settles O11: SWAP enters the effective block and nothing else, by an XOR. -/
theorem translateSwapsBlocks : Obligations.TranslateSwapsBlocks := by
  intro c v bank off
  refine ⟨fun block => ?unswapped, fun hswap => ?e7, fun k k' h => ?distinct⟩
  case unswapped =>
    refine translate_eq_translate_iff.mpr ⟨rfl, ?_, rfl⟩
    rw [swapField_and_not_swap, swapField_eq_extractLsb']
    exact BitVec.xor_zero.symm
  case e7 =>
    refine translate_eq_translate_iff.mpr ⟨rfl, ?_, rfl⟩
    rw [swapField_eq_extractLsb', hswap]
    decide
  case distinct =>
    obtain ⟨-, hblock, -⟩ := translate_eq_translate_iff.mp h
    exact (BitVec.xor_left_inj _).mp hblock

/-- Settles O12: the effective block is all that `V` gives (`translate_congr`), and the fields of
the join add up. -/
theorem translateReadsOnlySwap : Obligations.TranslateReadsOnlySwap := by
  intro s t bank block a
  constructor
  · intro hcfg hswap
    rw [← swapField_eq_extractLsb', ← swapField_eq_extractLsb'] at hswap
    rw [State.addr, State.addr, hcfg, translate_congr hswap]
  · intro hc
    rw [State.addr, translate_default hc, fields_toNat_eq_sum, BitVec.toNat_setWidth, off13_toNat,
      swapField_eq_extractLsb']

end Sys2Proof.Machine

/-! PROOFS. The register port (41_register_port.md): the offset bits that match and that name a
register (R81, R85), the gate (R82), what a register row does (R83, R84), and the register statement
at the end of a whole READ or WRITE (R87, R88). -/

namespace Sys2Proof.Machine

/-! ### The match and the register number (R81, R85) -/

/-- The offset bits of one register: the four of the match, and bit 0 as the register's number. -/
def registerLiterals (second : Bool) : List Literal :=
  [(12, true), (11, true), (10, true), (1, true), (0, second)]

theorem regMatch_iff_bits (a : Access) :
    regMatch a = true ↔ a.off.getLsbD 12 = true ∧ a.off.getLsbD 11 = true ∧
      a.off.getLsbD 10 = true ∧ a.off.getLsbD 1 = true := by
  simpa using regMatch_iff a

/-- The offsets of a register are those with its five bits (R85). -/
theorem namesRegister_iff (a : Access) (second : Bool) :
    regMatch a = true ∧ regNo a = second ↔
      a.off &&& 0x1C03 = if second then 0x1C03 else 0x1C02 := by
  have hmask : 0x1C03 = litMask 16 (registerLiterals second) := by cases second <;> decide
  have hpattern : (if second then 0x1C03 else 0x1C02) =
      litPattern 16 (registerLiterals second) := by
    cases second <;> decide
  have hbits := and_litMask_eq_iff a.off (ls := registerLiterals second)
    (by cases second <;> decide) (by cases second <;> decide)
  rw [hpattern, hmask, hbits, regMatch_iff_bits]
  simp [registerLiterals, regNo, regIndexBit, and_assoc]

/-- Masking with 0x1C03 keeps all the bits of the match. -/
theorem regMatch_of_masked (a : Access) :
    regMatch a = (a.off &&& 0x1C03 &&& regMatchMask == regMatchValue) := by
  have hmask : 0x1C03 &&& regMatchMask = regMatchMask := by decide
  rw [regMatch, BitVec.and_assoc, hmask]

/-- Masking with 0x1C03 keeps the register's number. -/
theorem regNo_of_masked (a : Access) : regNo a = (a.off &&& 0x1C03).getLsbD regIndexBit := by
  have hbit : (0x1C03 : BusOffset).getLsbD regIndexBit = true := by decide
  rw [regNo, BitVec.getLsbD_and, hbit, Bool.and_true]

/-! ### The gate (R82) -/

theorem granted_start {s : State} (h : s.mode = .start) (a : Access) :
    s.granted a = (regSel s.cfg a && !s.latch) := by
  rw [State.granted, regGate_start h]

theorem granted_unused {s : State} (h : s.mode = .unused) (a : Access) : s.granted a = false := by
  have hmode : modeOf s.cfg s.m = .unused := h
  rw [State.granted, regGate, hmode, Bool.and_false]

theorem granted_routed {s : State} (h1 : s.mode ≠ .start) (h2 : s.mode ≠ .unused) (a : Access) :
    s.granted a = (regSel s.cfg a && s.vis .reg) := by
  have hmode : modeOf s.cfg s.m ≠ .start := h1
  have hgate := regGate_iff (c := s.cfg) (v := s.v) (latch := s.latch) h2
  rw [if_neg hmode] at hgate
  rw [State.granted, Bool.eq_iff_iff.mpr hgate, State.vis]

/-- The register window's select under the default parameters (R81, D7). -/
theorem regSel_default_iff {c : Config} (hc : c = defaultConfig) (a : Access) :
    regSel c a = true ↔ a.sel.io3 = true ∧ a.off &&& 0x1C02 = 0x1C02 := by
  rw [hc, regSel, Bool.and_eq_true, regMatch, beq_iff_eq]
  rfl

/-- The mode under the default parameters is read off `M[7:5]` (R55, D1, D2). -/
theorem mode_eq_iff_of_default {s : State} (hc : s.cfg = defaultConfig) (md : Mode) :
    s.mode = md ↔ s.m &&& 0xE0 = (codeOfMode defaultModeEnc md).setWidth 8 <<< 5 := by
  rw [and_0xE0_eq_iff, State.mode, hc]
  exact modeOfCode_eq_iff (e := defaultModeEnc) (by decide) _ md

/-- `vis(reg)` under the default parameters is `V[7] = 0` (R16, D5, D6). -/
theorem vis_reg_iff_of_default {s : State} (hc : s.cfg = defaultConfig) :
    s.vis .reg = true ↔ s.v.getLsbD 7 = false := by
  simp [State.vis, visible, visPos, hc, defaultConfig]

/-! ### The register rows (R83, R84) -/

/-- A row that acts on a condition and otherwise changes nothing, where the condition has come down
to the grant. -/
theorem row_of_condition {i : Instr} {s t : State} {C : Prop} [Decidable C] {granted : Bool}
    (hx : exec i s = .next (if C then t else s)) (hC : C ↔ granted = true) :
    if granted = true then exec i s = .next t else noEffect i s := by
  split_ifs with hg
  · rwa [if_pos (hC.mpr hg)] at hx
  · rwa [if_neg (mt hC.mp hg)] at hx

/-- A row whose meaning is the register statement of READ drives the register if granted. -/
theorem readReg_row {i : Instr} {s : State} {md : Mode} {second : Bool} {a : Access}
    (hx : exec i s = .next (s.readReg md second a)) (hm : s.mode = md) (hno : regNo a = second) :
    if s.granted a = true then drivesByte i s (s.reg second) else noEffect i s :=
  row_of_condition hx (by simp [hm, hno])

/-- A row whose meaning is the register statement of WRITE sets the register if granted. -/
theorem writeReg_row {i : Instr} {s : State} {md : Mode} {second : Bool} {a : Access}
    (hx : exec i s = .next (s.writeReg md second a)) (hm : s.mode = md) (hno : regNo a = second) :
    if s.granted a = true then exec i s = .next (s.setReg second a.data) else noEffect i s :=
  row_of_condition hx (by simp [hm, hno])

/-! ### The register statement after the statements of the windows -/

theorem stmtReadReg_of_granted {s : State} {a : Access} (h : s.granted a = true) :
    s.stmtReadReg a = s.drive (s.reg (regNo a)) :=
  if_pos h

theorem stmtReadReg_of_refused {s : State} {a : Access} (h : s.granted a = false) :
    s.stmtReadReg a = s :=
  if_neg (Bool.eq_false_iff.mp h)

theorem stmtWriteReg_of_granted {s : State} {a : Access} (h : s.granted a = true) :
    s.stmtWriteReg a = s.setReg (regNo a) a.data :=
  if_pos h

theorem stmtReadW0_frame (s : State) (a : Access) : ReadFrame s (s.stmtReadW0 a) := by
  rcases stmtReadW0_cases s a with e | e <;> rw [e]
  · exact driveFrom_readFrame s _ _
  · exact .refl s

theorem stmtReadWindow_frame (s : State) (w : Window) (a : Access) :
    ReadFrame s (s.stmtReadWindow w a) := by
  rcases stmtReadWindow_cases s w a with ⟨st, p, e⟩ | e <;> rw [e]
  · exact driveFrom_readFrame s st p
  · exact .refl s

/-- A granted register statement drives the register that stood there before the statements of the
windows. -/
theorem stmtReadReg_out_of_frame {s t : State} {a : Access} (h : ReadFrame s t)
    (hg : s.granted a = true) :
    (t.stmtReadReg a).out = some { d := s.reg (regNo a), drv := true } := by
  have hgt : t.granted a = true := (State.granted_congr h.m h.v h.latch h.cfg a).trans hg
  rw [stmtReadReg_of_granted hgt, State.drive_out, State.reg, State.reg, h.m, h.v]

/-- Outside START the register statement has the last word (R87). -/
theorem readProcedure_out_of_granted {s : State} {a : Access} (h1 : s.mode ≠ .start)
    (hg : s.granted a = true) :
    (s.readProcedure a).out = some { d := s.reg (regNo a), drv := true } := by
  have h2 : s.mode ≠ .unused := fun h =>
    Bool.false_ne_true ((granted_unused h a).symm.trans hg)
  rw [readProcedure_routed h1 h2]
  exact stmtReadReg_out_of_frame ((stmtReadW0_frame s a).trans <|
    (stmtReadWindow_frame _ .w1 a).trans <| (stmtReadWindow_frame _ .w2 a).trans <|
    (stmtReadWindow_frame _ .w3 a).trans (stmtReadWindow_frame _ .w5 a)) hg

/-- In START a READ that window 5 answers has locked by the time the registers are tried, so it ends
with the byte of the external device (R92, R93). -/
theorem readProcedure_start_w5 {s : State} {a : Access} (hm : s.mode = .start)
    (hsel : a.sel.blk5 = true) (hopen : startW5Open s.cfg s.v = true) :
    s.readProcedure a = (s.driveFrom .rom (s.addr 0 3 a)).lock := by
  have hw5 : s.stmtReadStartW5 a = (s.driveFrom .rom (s.addr 0 3 a)).lock :=
    if_pos (by rw [hsel, hopen]; rfl)
  have hrefused : (s.driveFrom .rom (s.addr 0 3 a)).lock.granted a = false := by
    have hm' : (s.driveFrom .rom (s.addr 0 3 a)).lock.mode = .start := hm
    rw [granted_start hm', State.lock_latch, Bool.not_true, Bool.and_false]
  rw [readProcedure_start hm, hw5, stmtReadReg_of_refused hrefused]

/-! ### An access that selects the register window only (R88) -/

/-- An access that selects only the register window does not select window 5. -/
theorem blk5_of_selectsOnly_reg {a : Access} (h : selectsOnly a .reg = true) :
    a.sel.blk5 = false := by
  obtain ⟨hio3, hone⟩ : a.sel.io3 = true ∧ selectedRegions a = 1 := by
    simpa [selectsOnly] using h
  obtain ⟨r, others⟩ := exclusive_region (a := a) (by simp [exclusive, hone])
  have hreg : Region.reg = r := by
    by_contra hne
    exact Bool.false_ne_true ((others .reg hne).symm.trans hio3)
  exact others (.win .w5) (by simp [← hreg])

/-- In START with the latch clear the registers answer (R82, R88). -/
theorem granted_of_unlocked {s : State} {a : Access} (hm : s.mode = .start)
    (hl : s.latch = false) (hc : s.cfg.regSignal = .io3) (hio3 : a.sel.io3 = true)
    (hmatch : regMatch a = true) : s.granted a = true := by
  have hsel : selectsReg s.cfg a = true := by rw [selectsReg, hc]; exact hio3
  rw [granted_start hm, regSel, hsel, hmatch, hl]
  rfl

theorem stmtReadStartW5_unselected {a : Access} (h : a.sel.blk5 = false) (s : State) :
    s.stmtReadStartW5 a = s := by
  simp [State.stmtReadStartW5, h]

theorem readProcedure_start_reg {s : State} {a : Access} (hm : s.mode = .start)
    (hw5 : a.sel.blk5 = false) (hg : s.granted a = true) :
    s.readProcedure a = s.drive (s.reg (regNo a)) := by
  rw [readProcedure_start hm, stmtReadStartW5_unselected hw5, stmtReadReg_of_granted hg]

theorem writeSlots_start_reg {s : State} {a : Access} (hm : s.mode = .start)
    (hw5 : a.sel.blk5 = false) (hg : s.granted a = true) :
    s.writeSlots a = s.setReg (regNo a) a.data := by
  rw [writeSlots_start hm, stmtWriteStartW5_unselected hw5, stmtWriteReg_of_granted hg]

theorem setReg_eq (s : State) (second : Bool) (b : Byte) :
    s.setReg second b =
      { s with m := if second then s.m else b, v := if second then b else s.v } := by
  cases second <;> rfl

/-- A WRITE begins with nothing returned (R52). -/
theorem begin_write {w : TW} {a : Access} (hw : twTransaction w = .write a) (s : State)
    (rest : List TW) : s.begin w rest = { s with pending := rest, out := none } := by
  rw [State.begin, hw]
  rfl

/-! ### The obligations -/

/-- Settles O56: outside START nothing that the windows do touches what the register statement reads
(`readProcedure_out_of_granted`), in START window 5 locks first (`readProcedure_start_w5`). -/
theorem registerWinsRead : Obligations.RegisterWinsRead := by
  intro s w rest a hp hw
  refine ⟨fun hm hg => ⟨_, step_read hp hw, ?_⟩, fun hm hsel hopen => ⟨_, step_read hp hw, ?_⟩⟩
  · exact readProcedure_out_of_granted (s := s.begin w rest) hm hg
  · rw [readProcedure_start_w5 (s := s.begin w rest) hm hsel hopen]
    rfl

/-- Settles O53: the latch after window 5 by `readProcedure_latch` and `writeSlots_latch`; with
window 5 not selected only the register statement is left, and the clear latch grants it. -/
theorem unlockOpensTheRegisters : Obligations.UnlockOpensTheRegisters := by
  intro s w rest a hp hm
  refine ⟨fun hsel hopen => ⟨fun hw => ?lock, fun hw => ?unlock⟩,
    fun hl honly hmatch hc => ?registers⟩
  case lock =>
    exact ⟨_, step_read hp hw, (readProcedure_latch _ a).trans (if_pos ⟨hm, hsel, hopen⟩)⟩
  case unlock =>
    exact ⟨_, step_write hp hw, (writeSlots_latch _ a).trans (if_pos ⟨hm, hsel, hopen⟩)⟩
  case registers =>
    have hw5 := blk5_of_selectsOnly_reg honly
    have hio3 : a.sel.io3 = true := (Bool.and_eq_true_iff.mp honly).1
    have hbegin : (s.begin w rest).mode = .start := hm
    have hg : (s.begin w rest).granted a = true := granted_of_unlocked hbegin hl hc hio3 hmatch
    refine ⟨fun hw => ?_, fun hw => ?_⟩
    · rw [step_read hp hw, readProcedure_start_reg hbegin hw5 hg]
      rfl
    · rw [step_write hp hw, writeSlots_start_reg hbegin hw5 hg, setReg_eq, begin_write hw]

/-- Settles O7: the match by its four bits, each register by its five, and both are functions of
those five. -/
theorem registerWindowMatch : Obligations.RegisterWindowMatch := by
  intro a b
  refine ⟨regMatch_iff_bits a, namesRegister_iff a false, namesRegister_iff a true, fun h => ?_⟩
  rw [regMatch_of_masked a, regNo_of_masked a, h, ← regMatch_of_masked, ← regNo_of_masked]
  exact ⟨rfl, rfl⟩

/-- Settles O8, by the three cases of the gate: START, UNUSED and the other modes. -/
theorem registerGate : Obligations.RegisterGate := by
  intro s a hc
  have start_iff : s.mode = .start ↔ s.m &&& 0xE0 = 0x00 := mode_eq_iff_of_default hc .start
  have unused_iff : s.mode = .unused ↔ s.m &&& 0xE0 = 0xE0 := mode_eq_iff_of_default hc .unused
  rw [← and_assoc, ← regSel_default_iff hc]
  split_ifs with h1 h2
  case pos => rw [granted_start (start_iff.mpr h1), Bool.and_eq_true, Bool.not_eq_true']
  case pos => simp [granted_unused (unused_iff.mpr h2)]
  case neg =>
    rw [granted_routed (mt start_iff.mp h1) (mt unused_iff.mp h2), Bool.and_eq_true,
      vis_reg_iff_of_default hc]

/-- Settles O15: each of the rows means the register statement of READ of its mode and register. -/
theorem readRegisters : Obligations.ReadRegisters := by
  intro s a
  and_intros <;> exact readReg_row rfl

/-- Settles O26: each of the rows means the register statement of WRITE of its mode and register. -/
theorem writeRegisters : Obligations.WriteRegisters := by
  intro s a
  and_intros <;> exact writeReg_row rfl

end Sys2Proof.Machine

/-! PROOFS. The mode router's READ path (42_mode_router_read.md): what each window row drives when its
window is visible and that it does nothing when hidden (R91, R92, R94 to R106); the rows whose action
is none (R59, R108, R138); an access that nothing answers (R110, R140) and hidden windows (R111). -/

namespace Sys2Proof.Machine

/-! ### The rows of the windows (R92, R94, R95) -/

theorem drivesRam_iff {i : Instr} {s : State} {p : PhysAddr} :
    drivesRam i s p ↔ exec i s = .next (s.driveFrom .ram p) :=
  Iff.rfl

theorem drivesRom_iff {i : Instr} {s : State} {p : PhysAddr} :
    drivesRom i s p ↔ exec i s = .next (s.driveFrom .rom p) :=
  Iff.rfl

/-- A row whose meaning is the window-0 statement of READ drives RAM bank 0, block 0 if window 0 is
visible. -/
theorem readW0_row {i : Instr} {s : State} {md : Mode} {asserted : Bool} {a : Access}
    (hx : exec i s = .next (s.readW0 md asserted a)) (hm : s.mode = md) (hs : asserted = true) :
    if s.vis .w0 = true then drivesRam i s (s.addr 0 0 a) else noEffect i s :=
  row_of_condition hx (by simp [hm, hs])

/-- A row whose meaning is the window statement of READ drives its store at its bank if the window
is visible. -/
theorem readWindow_row {i : Instr} {s : State} {md : Mode} (w : Window) {st : Store}
    {bank : BitVec 7} {a : Access} (hx : exec i s = .next (s.readWindow md w st bank a))
    (hm : s.mode = md) (hs : selectsWindow a w = true) :
    if s.vis (.win w) = true then exec i s = .next (s.driveFrom st (s.addr bank (blockOf w) a))
    else noEffect i s :=
  row_of_condition hx (by simp [hm, hs])

/-- The same for one of the two rows of a window in RAM_2 and RAM_ROM, when the select bit has the
row's value. -/
theorem readWindowSel_row {i : Instr} {s : State} {md : Mode} (w : Window) {bit : Bool} {st : Store}
    {bank : BitVec 7} {a : Access} (hx : exec i s = .next (s.readWindowSel md w bit st bank a))
    (hm : s.mode = md) (hs : selectsWindow a w = true) (hb : s.sel w = bit) :
    if s.vis (.win w) = true then exec i s = .next (s.driveFrom st (s.addr bank (blockOf w) a))
    else noEffect i s :=
  readWindow_row w (hx.trans (congrArg _ (if_pos hb))) hm hs

theorem startW5Open_iff (s : State) :
    startW5Open s.cfg s.v = true ↔ s.vis (.win .w5) = true ∨ s.cfg.startW5VisGated = false := by
  simp [startW5Open, State.vis]

/-! ### An access that meets no condition (R110, R111, R140) -/

/-- A READ begins with `d_in` undriven (R90). -/
theorem begin_read {w : TW} {a : Access} (hw : twTransaction w = .read a) (s : State)
    (rest : List TW) :
    s.begin w rest = { s with pending := rest, out := some { d := a.data, drv := false } } := by
  rw [State.begin, hw]
  rfl

/-- The step that answers a quiet access has no effect but on the queue and the result. -/
theorem step_of_quiet {s : State} {w : TW} {rest : List TW} {a : Access}
    (hp : s.pending = w :: rest) (hq : quiet s a = true) :
    (twTransaction w = .read a →
      step s = .next { s with pending := rest, out := some { d := a.data, drv := false } }) ∧
    (twTransaction w = .write a → step s = .next { s with pending := rest, out := none }) :=
  ⟨fun hw => by rw [step_quiet_read hp hw hq, begin_read hw],
    fun hw => by rw [step_quiet_write hp hw hq, begin_write hw]⟩

/-- An access is quiet if each window that it selects is hidden and the registers are refused, where
START's window 5 is gated by its hide bit too (D9). -/
theorem quiet_of_windows_closed {s : State} {a : Access} (hgated : s.cfg.startW5VisGated = true)
    (hwin : ∀ r, r ≠ .reg → selectsRegion a r = true → s.vis r = false)
    (hreg : s.granted a = false) : quiet s a = true := by
  have closed (r : Region) (hr : r ≠ .reg) : (selectsRegion a r && s.vis r) = false := by
    simpa using hwin r hr
  by_cases h1 : s.mode = .start
  · have hopen : startW5Open s.cfg s.v = s.vis (.win .w5) := by
      rw [Bool.eq_iff_iff, startW5Open_iff, hgated]
      simp
    exact (quiet_start_iff h1).mpr ⟨by rw [hopen]; exact closed (.win .w5) (by simp), hreg⟩
  by_cases h2 : s.mode = .unused
  · simp only [quiet, h2]
  · exact (quiet_routed_iff h1 h2).mpr
      ⟨closed .w0 (by simp), fun w => closed (.win w) (by simp), hreg⟩

/-- An access that selects only one region selects no other. -/
theorem selectsRegion_of_selectsOnly {a : Access} {r r' : Region} (h : selectsOnly a r = true)
    (hne : r' ≠ r) : selectsRegion a r' = false := by
  cases r with
  | win w => exact selectsRegion_of_selectsOnly_win h hne
  | w0 =>
    simp only [selectsOnly, Bool.and_eq_true, Bool.not_eq_true'] at h
    obtain ⟨⟨⟨⟨⟨-, hblk1⟩, hblk2⟩, hblk3⟩, hblk5⟩, hio3⟩ := h
    rcases r' with _ | w | _
    · exact absurd rfl hne
    · cases w <;> assumption
    · exact hio3
  | reg =>
    obtain ⟨hio3, hone⟩ : a.sel.io3 = true ∧ selectedRegions a = 1 := by
      simpa [selectsOnly] using h
    obtain ⟨r₀, others⟩ := exclusive_region (a := a) (by simp [exclusive, hone])
    have hreg : Region.reg = r₀ := by
      by_contra hr
      exact Bool.false_ne_true ((others .reg hr).symm.trans hio3)
    exact others r' (hreg ▸ hne)

theorem selectsRegion_of_selectedRegions_eq_zero {a : Access} (h : selectedRegions a = 0)
    (r : Region) : selectsRegion a r = false := by
  rw [selectedRegions_eq_length, List.length_eq_zero_iff, List.filter_eq_nil_iff] at h
  exact Bool.eq_false_iff.mpr (h r (mem_allRegions r))

/-- The registers are refused to an access that is not theirs, by signal or by offset (R81, R82). -/
theorem granted_of_not_regSel {s : State} {a : Access} (hc : s.cfg = defaultConfig)
    (h : a.sel.io3 = true → a.off &&& 0x1C02 ≠ 0x1C02) : s.granted a = false := by
  have hsel : regSel s.cfg a = false :=
    Bool.eq_false_iff.mpr fun hsel =>
      have ⟨hio3, hoff⟩ := (regSel_default_iff hc a).mp hsel
      h hio3 hoff
  rw [State.granted, hsel, Bool.false_and]

/-- Under the default parameters an access is quiet if each window that it selects is hidden and it
is not the registers'. -/
theorem quiet_of_default {s : State} {a : Access} (hc : s.cfg = defaultConfig)
    (hwin : ∀ r, r ≠ .reg → selectsRegion a r = true → s.vis r = false)
    (hreg : a.sel.io3 = true → a.off &&& 0x1C02 ≠ 0x1C02) : quiet s a = true :=
  quiet_of_windows_closed (by rw [hc]; rfl) hwin (granted_of_not_regSel hc hreg)

/-- The bit of `V` at a region's default position hides the region (R16, D5, D6). -/
theorem vis_of_default {s : State} (hc : s.cfg = defaultConfig) (r : Region) :
    s.vis r = !s.v.getLsbD (visPos defaultConfig r) := by
  simp [State.vis, visible, hc, defaultConfig]

/-! ### The obligations -/

/-- Settles O50: the first part is `step_of_quiet`; of the four inputs of R59 and R110 the first two
select no window and not the registers, UNUSED is quiet by definition, and START looks at blk5 and
io3 only. -/
theorem quietAccessChangesNothing : Obligations.QuietAccessChangesNothing := by
  refine ⟨fun s w rest a hp hq => step_of_quiet hp hq, fun s a hc hcase => ?_⟩
  rcases hcase with hnone | ⟨honly, hoff⟩ | hm | ⟨hm, hblk5, hio3⟩
  · have off := selectsRegion_of_selectedRegions_eq_zero hnone
    exact quiet_of_default hc (fun r _ hr => absurd hr (Bool.eq_false_iff.mp (off r)))
      fun hio3 => absurd hio3 (Bool.eq_false_iff.mp (off .reg))
  · exact quiet_of_default hc
      (fun r hne hr => absurd hr (Bool.eq_false_iff.mp (selectsRegion_of_selectsOnly honly hne)))
      fun _ => hoff
  · simp only [quiet, hm]
  · exact (quiet_start_iff hm).mpr
      ⟨by rw [hblk5, Bool.false_and], granted_of_not_regSel hc (by simp [hio3])⟩

/-- Settles O51: the one region that is selected is hidden, so the access is quiet
(`quiet_of_default`). -/
theorem hiddenWindowsDoNothing : Obligations.HiddenWindowsDoNothing := by
  intro s w rest a r hc hp honly hbit
  have hidden : r ≠ .reg ∧ s.vis r = false := by
    rw [vis_of_default hc, Bool.not_eq_false']
    rcases r with _ | w | _
    · exact ⟨by simp, hbit⟩
    · cases w <;> exact ⟨by simp, hbit⟩
    · exact hbit.elim
  have others (r' : Region) (hr' : selectsRegion a r' = true) : r' = r := by
    by_contra hne
    exact Bool.false_ne_true ((selectsRegion_of_selectsOnly honly hne).symm.trans hr')
  exact step_of_quiet hp <| quiet_of_default hc (fun r' _ hr' => others r' hr' ▸ hidden.2)
    fun hio3 => absurd (others .reg hio3).symm hidden.1

/-- Settles O13: each of these rows has the action none. -/
theorem readStartNoAccess : Obligations.ReadStartNoAccess :=
  fun _ _ => ⟨rfl, rfl, rfl, rfl, rfl, rfl⟩

/-- Settles O14: in START with blk5 asserted the row's condition is that window 5 answers. -/
theorem readStartWindow5 : Obligations.ReadStartWindow5 := by
  intro s a hm hsel
  have row := row_of_condition (i := .rdStartW5 a) (s := s) (granted := startW5Open s.cfg s.v) rfl
    (by simp [hm, hsel])
  simp only [startW5Open_iff] at row
  exact row

/-- Settles O16: each of the rows means the window-0 statement of READ of its mode and signal. -/
theorem readFixedLowWindow : Obligations.ReadFixedLowWindow := by
  intro s a
  and_intros <;> exact readW0_row rfl

/-- Settles O17, window by window, by the store and bank of each row. -/
theorem readSuperRomWindows : Obligations.ReadSuperRomWindows := by
  simp only [Obligations.ReadSuperRomWindows, drivesRom_iff]
  exact fun s a hm => ⟨readWindow_row .w1 rfl hm, readWindow_row .w2 rfl hm,
    readWindow_row .w3 rfl hm, readWindow_row .w5 rfl hm⟩

/-- Settles O18, window by window, by the store and bank of each row. -/
theorem readFlashWindows : Obligations.ReadFlashWindows := by
  simp only [Obligations.ReadFlashWindows, drivesRom_iff]
  exact fun s a hm => ⟨readWindow_row .w1 rfl hm, readWindow_row .w2 rfl hm,
    readWindow_row .w3 rfl hm, readWindow_row .w5 rfl hm⟩

/-- Settles O19, window by window, by the store and bank of each row. -/
theorem readRam1Windows : Obligations.ReadRam1Windows := by
  simp only [Obligations.ReadRam1Windows, drivesRam_iff]
  exact fun s a hm => ⟨readWindow_row .w1 rfl hm, readWindow_row .w2 rfl hm,
    readWindow_row .w3 rfl hm, readWindow_row .w5 rfl hm⟩

/-- Settles O20, window by window and for both values of the select bit. -/
theorem readRam2Windows : Obligations.ReadRam2Windows := by
  simp only [Obligations.ReadRam2Windows, drivesRam_iff]
  exact fun s a hm =>
    ⟨readWindowSel_row .w1 rfl hm, readWindowSel_row .w1 rfl hm,
      readWindowSel_row .w2 rfl hm, readWindowSel_row .w2 rfl hm,
      readWindowSel_row .w3 rfl hm, readWindowSel_row .w3 rfl hm,
      readWindowSel_row .w5 rfl hm, readWindowSel_row .w5 rfl hm⟩

/-- Settles O21, window by window, by the store and bank of each row. -/
theorem readSuperRamWindows : Obligations.ReadSuperRamWindows := by
  simp only [Obligations.ReadSuperRamWindows, drivesRam_iff]
  exact fun s a hm => ⟨readWindow_row .w1 rfl hm, readWindow_row .w2 rfl hm,
    readWindow_row .w3 rfl hm, readWindow_row .w5 rfl hm⟩

/-- Settles O22, window by window and for both values of the select bit, which picks the store. -/
theorem readRamRomWindows : Obligations.ReadRamRomWindows := by
  simp only [Obligations.ReadRamRomWindows, drivesRam_iff, drivesRom_iff]
  exact fun s a hm =>
    ⟨readWindowSel_row .w1 rfl hm, readWindowSel_row .w1 rfl hm,
      readWindowSel_row .w2 rfl hm, readWindowSel_row .w2 rfl hm,
      readWindowSel_row .w3 rfl hm, readWindowSel_row .w3 rfl hm,
      readWindowSel_row .w5 rfl hm, readWindowSel_row .w5 rfl hm⟩

/-- Settles O23: each of these rows has the action none. -/
theorem ignoredRowsHaveNoEffect : Obligations.IgnoredRowsHaveNoEffect :=
  fun _ _ => ⟨rfl, rfl, rfl, rfl⟩

end Sys2Proof.Machine

/-! PROOFS. The mode router's WRITE path (43_mode_router_write.md): what each window row stores when
its window is visible and that it does nothing when hidden (R121, R122, R124 to R136); the START access
that unlocks the registers and writes one of them (R123); what a whole WRITE never does (R141). -/

namespace Sys2Proof.Machine

/-! ### One byte stored to a canonical RAM -/

theorem ramStored_storeTo {s : State} (hwf : memWf s.ram = true) (p : PhysAddr) (b : Byte) :
    ramStored s (s.storeTo .ram p b) p b :=
  ⟨memRead_memWrite_same hwf _ _, fun _ hx => memRead_memWrite_other _ _ hx,
    memWf_memWrite b (physAddr_lt_storeSize p) hwf, rfl⟩

/-- In canonical form the bytes of RAM determine it, so the frame of `ramStored` leaves one
state. -/
theorem ramStored_iff {s t : State} (hwf : memWf s.ram = true) {p : PhysAddr} {b : Byte} :
    ramStored s t p b ↔ t = s.storeTo .ram p b := by
  constructor
  · rintro ⟨hsame, hother, hwf', ht⟩
    have hram : t.ram = memWrite s.ram p.toNat b := by
      refine memWf_ext_from hwf' (memWf_memWrite b (physAddr_lt_storeSize p) hwf) fun x => ?_
      by_cases hx : x = p.toNat
      · rw [hx, hsame, memRead_memWrite_same hwf]
      · rw [hother x hx, memRead_memWrite_other _ _ hx]
    rw [ht, hram]
    rfl
  · rintro rfl
    exact ramStored_storeTo hwf p b

theorem storesRam_iff {i : Instr} {s : State} (hwf : memWf s.ram = true) {p : PhysAddr} {b : Byte} :
    storesRam i s p b ↔ exec i s = .next (s.storeTo .ram p b) := by
  simp only [storesRam, ramStored_iff hwf, exists_eq_right]

theorem storesRom_iff {i : Instr} {s : State} {p : PhysAddr} {b : Byte} :
    storesRom i s p b ↔ exec i s = .next (s.storeTo .rom p b) :=
  Iff.rfl

/-! ### The rows of the windows (R124, R125) -/

/-- A row whose meaning is the window-0 statement of WRITE stores to RAM bank 0, block 0 if window 0
is visible. -/
theorem writeW0_row {i : Instr} {s : State} {md : Mode} {asserted : Bool} {a : Access}
    (hx : exec i s = .next (s.writeW0 md asserted a)) (hm : s.mode = md) (hs : asserted = true) :
    if s.vis .w0 = true then exec i s = .next (s.storeTo .ram (s.addr 0 0 a) a.data)
    else noEffect i s :=
  row_of_condition hx (by simp [hm, hs])

/-- A row whose meaning is the window statement of WRITE stores to its store at its bank if the
window is visible. -/
theorem writeWindow_row {i : Instr} {s : State} {md : Mode} (w : Window) {st : Store}
    {bank : BitVec 7} {a : Access} (hx : exec i s = .next (s.writeWindow md w st bank a))
    (hm : s.mode = md) (hs : selectsWindow a w = true) :
    if s.vis (.win w) = true then
      exec i s = .next (s.storeTo st (s.addr bank (blockOf w) a) a.data)
    else noEffect i s :=
  row_of_condition hx (by simp [hm, hs])

/-- The same for one of the two rows of a window in RAM_2 and RAM_ROM, when the select bit has the
row's value. -/
theorem writeWindowSel_row {i : Instr} {s : State} {md : Mode} (w : Window) {bit : Bool}
    {st : Store} {bank : BitVec 7} {a : Access}
    (hx : exec i s = .next (s.writeWindowSel md w bit st bank a)) (hm : s.mode = md)
    (hs : selectsWindow a w = true) (hb : s.sel w = bit) :
    if s.vis (.win w) = true then
      exec i s = .next (s.storeTo st (s.addr bank (blockOf w) a) a.data)
    else noEffect i s :=
  writeWindow_row w (hx.trans (congrArg _ (if_pos hb))) hm hs

/-! ### The write target (D14) -/

/-- A choice between the stores by ROM_MODE_WRITE_TARGET is a store to the target. -/
theorem storesToTarget_iff {i : Instr} {s : State} {target : Store} {p : PhysAddr} {b : Byte} :
    (if target = .rom then exec i s = .next (s.storeTo .rom p b)
      else exec i s = .next (s.storeTo .ram p b)) ↔
    exec i s = .next (s.storeTo target p b) := by
  cases target <;> simp

/-- The same in RAM_ROM, where the target decides the bank too (R134). -/
theorem storesToRamRomTarget_iff {i : Instr} {s : State} {block : BitVec 2} {a : Access}
    {b : Byte} :
    (if s.cfg.romModeWriteTarget = .rom then exec i s = .next (s.storeTo .rom (s.addr 0 block a) b)
      else exec i s = .next (s.storeTo .ram (s.addr 1 block a) b)) ↔
    exec i s = .next (s.storeTo s.cfg.romModeWriteTarget
      (s.addr (ramRomSelectedBank s.cfg) block a) b) := by
  cases h : s.cfg.romModeWriteTarget <;> simp [ramRomSelectedBank, h]

/-! ### Window 5 of START and the registers in one WRITE (R122, R123) -/

theorem stmtWriteStartW5_of_open {s : State} {a : Access} (hsel : a.sel.blk5 = true)
    (hopen : startW5Open s.cfg s.v = true) :
    s.stmtWriteStartW5 a = (s.storeTo .ram (s.addr 1 3 a) a.data).unlock :=
  if_pos (Bool.and_eq_true_iff.mpr ⟨hsel, hopen⟩)

/-- In START a WRITE that window 5 answers has unlocked by the time the registers are tried, so
their select and match are enough. -/
theorem writeSlots_start_w5_reg {s : State} {a : Access} (hm : s.mode = .start)
    (hsel : a.sel.blk5 = true) (hopen : startW5Open s.cfg s.v = true)
    (hreg : regSel s.cfg a = true) :
    s.writeSlots a =
      (s.storeTo .ram (s.addr 1 3 a) a.data).unlock.setReg (regNo a) a.data := by
  have hgranted : (s.storeTo .ram (s.addr 1 3 a) a.data).unlock.granted a = true := by
    have hm' : (s.storeTo .ram (s.addr 1 3 a) a.data).unlock.mode = .start := hm
    rw [granted_start hm', State.unlock_latch, Bool.not_false, Bool.and_true]
    exact hreg
  rw [writeSlots_start hm, stmtWriteStartW5_of_open hsel hopen, stmtWriteReg_of_granted hgranted]

/-! ### What the windows can do in a WRITE (R141) -/

/-- The addresses of RAM that the windows store to in a WRITE: those that the AddressTranslator
gives for a selected window that answers. -/
def State.storesAt (s : State) (a : Access) (x : Nat) : Prop :=
  (s.mode = .start ∧ a.sel.blk5 = true ∧ startW5Open s.cfg s.v = true ∧
    x = (s.addr 1 3 a).toNat) ∨
  (s.mode ≠ .start ∧ s.mode ≠ .unused ∧ selectsW0 a = true ∧ s.vis .w0 = true ∧
    x = (s.addr 0 0 a).toNat) ∨
  ∃ win bank, selectsWindow a win = true ∧ s.vis (.win win) = true ∧
    s.routeWrite win = some (.ram, bank) ∧ x = (s.addr bank (blockOf win) a).toNat

theorem State.routeWrite_congr {s t : State} (hm : t.m = s.m) (hc : t.cfg = s.cfg) (w : Window) :
    t.routeWrite w = s.routeWrite w := by
  simp only [State.routeWrite, State.routeRead, State.mode_congr hm hc, State.bank_congr hm,
    State.sel_congr hm hc, hc]

/-- The addresses depend on `M`, `V` and the parameters only. -/
theorem State.storesAt_congr {s t : State} (hm : t.m = s.m) (hv : t.v = s.v) (hc : t.cfg = s.cfg)
    (a : Access) (x : Nat) : t.storesAt a x ↔ s.storesAt a x := by
  simp only [State.storesAt, State.mode_congr hm hc, State.vis_congr hv hc,
    State.addr_congr hv hc, State.routeWrite_congr hm hc, hv, hc]

/-- What the statements of the windows may do in a WRITE: they keep `M`, `V`, the parameters and the
result, and change RAM only where a window stores. The latch is left out, since window 5 of START
unlocks (R122). -/
structure WindowsEffect (a : Access) (s t : State) : Prop where
  m   : t.m = s.m
  v   : t.v = s.v
  cfg : t.cfg = s.cfg
  out : t.out = s.out
  ram : ∀ x, memRead t.ram x ≠ memRead s.ram x → s.storesAt a x

namespace WindowsEffect

variable {a : Access}

theorem refl (s : State) : WindowsEffect a s s :=
  ⟨rfl, rfl, rfl, rfl, fun _ h => absurd rfl h⟩

theorem trans {s t u : State} (h : WindowsEffect a s t) (k : WindowsEffect a t u) :
    WindowsEffect a s u where
  m := k.m.trans h.m
  v := k.v.trans h.v
  cfg := k.cfg.trans h.cfg
  out := k.out.trans h.out
  ram x hx := by
    by_cases ht : memRead t.ram x = memRead s.ram x
    · exact (State.storesAt_congr h.m h.v h.cfg a x).mp (k.ram x (ht ▸ hx))
    · exact h.ram x ht

/-- A store to RAM at one of the addresses. -/
theorem storeRam {s : State} {p : PhysAddr} (b : Byte) (hp : s.storesAt a p.toNat) :
    WindowsEffect a s (s.storeTo .ram p b) :=
  ⟨rfl, rfl, rfl, rfl, fun x hx => by
    by_cases e : x = p.toNat
    · exact e ▸ hp
    · exact absurd (memRead_memWrite_other s.ram b e) hx⟩

theorem storeRom (s : State) (p : PhysAddr) (b : Byte) : WindowsEffect a s (s.storeTo .rom p b) :=
  ⟨rfl, rfl, rfl, rfl, fun _ h => absurd rfl h⟩

theorem unlock (s : State) : WindowsEffect a s s.unlock :=
  ⟨rfl, rfl, rfl, rfl, fun _ h => absurd rfl h⟩

/-- Window 0, through any of its three signals (R124). -/
theorem stmtWriteRam {s : State} (h1 : s.mode ≠ .start) (h2 : s.mode ≠ .unused) {asserted : Bool}
    (hsel : asserted = true → selectsW0 a = true) :
    WindowsEffect a s (s.stmtWriteRam asserted a) := by
  unfold State.stmtWriteRam
  split
  next h =>
    obtain ⟨hasserted, hvis⟩ := Bool.and_eq_true_iff.mp h
    exact storeRam _ (.inr (.inl ⟨h1, h2, hsel hasserted, hvis, rfl⟩))
  next => exact refl s

/-- One of the four windows, in the store and bank of `route_w` (R125). -/
theorem stmtWriteWindow (s : State) (w : Window) :
    WindowsEffect a s (s.stmtWriteWindow w a) := by
  unfold State.stmtWriteWindow
  split
  next h =>
    obtain ⟨hsel, hvis⟩ := Bool.and_eq_true_iff.mp h
    split
    next st bank hroute =>
      cases st with
      | ram => exact storeRam _ (.inr (.inr ⟨w, bank, hsel, hvis, hroute, rfl⟩))
      | rom => exact storeRom s _ _
    next => exact refl s
  next => exact refl s

/-- Window 5 of START (R122). -/
theorem stmtWriteStartW5 {s : State} (hm : s.mode = .start) :
    WindowsEffect a s (s.stmtWriteStartW5 a) := by
  unfold State.stmtWriteStartW5
  split
  next h =>
    obtain ⟨hsel, hopen⟩ := Bool.and_eq_true_iff.mp h
    exact (storeRam _ (.inl ⟨hm, hsel, hopen, rfl⟩)).trans (unlock _)
  next => exact refl s

end WindowsEffect

/-- In every mode a WRITE is what its windows do and then the register statement (R120), which mode
UNUSED refuses. -/
theorem writeSlots_eq_stmtWriteReg (s : State) (a : Access) :
    ∃ u, WindowsEffect a s u ∧ s.writeSlots a = u.stmtWriteReg a := by
  by_cases h1 : s.mode = .start
  · exact ⟨_, .stmtWriteStartW5 h1, writeSlots_start h1 a⟩
  by_cases h2 : s.mode = .unused
  · have refused : s.stmtWriteReg a = s := if_neg (by simp [granted_unused h2])
    exact ⟨s, .refl s, (writeSlots_unused h2 a).trans refused.symm⟩
  · have ram (u : State) (hu : u.mode = s.mode) {asserted : Bool}
        (hsel : asserted = true → selectsW0 a = true) :
        WindowsEffect a u (u.stmtWriteRam asserted a) :=
      .stmtWriteRam (hu ▸ h1) (hu ▸ h2) hsel
    obtain ⟨hram1, hram2, hram3⟩ : (a.sel.ram1 = true → selectsW0 a = true) ∧
        (a.sel.ram2 = true → selectsW0 a = true) ∧ (a.sel.ram3 = true → selectsW0 a = true) := by
      simp +contextual [selectsW0]
    refine ⟨_, ?_, writeSlots_routed h1 h2 a⟩
    exact (ram _ rfl hram1).trans <| (ram _ (by simp) hram2).trans <|
      (ram _ (by simp) hram3).trans <|
      (WindowsEffect.stmtWriteWindow _ .w1).trans <| (WindowsEffect.stmtWriteWindow _ .w2).trans <|
      (WindowsEffect.stmtWriteWindow _ .w3).trans (WindowsEffect.stmtWriteWindow _ .w5)

/-! ### What the register statement can do in a WRITE (R84, R141) -/

@[simp] theorem stmtWriteReg_ram (s : State) (a : Access) : (s.stmtWriteReg a).ram = s.ram := by
  rcases stmtWriteReg_cases s a with ⟨-, e⟩ | e <;> simp [e]

@[simp] theorem stmtWriteReg_out (s : State) (a : Access) : (s.stmtWriteReg a).out = s.out := by
  rcases stmtWriteReg_cases s a with ⟨-, e⟩ | e <;> simp [e]

theorem granted_of_stmtWriteReg_ne {s : State} {a : Access}
    (h : (s.stmtWriteReg a).m ≠ s.m ∨ (s.stmtWriteReg a).v ≠ s.v) : s.granted a = true := by
  rcases stmtWriteReg_cases s a with ⟨hg, -⟩ | e
  · exact hg
  · simp [e] at h

/-- The gate of R82, mode by mode. -/
theorem granted_iff (s : State) (a : Access) :
    s.granted a = true ↔ regSel s.cfg a = true ∧
      if s.mode = .start then s.latch = false else s.mode ≠ .unused ∧ s.vis .reg = true := by
  split_ifs with h1
  · simp [granted_start h1]
  by_cases h2 : s.mode = .unused
  · simp [granted_unused h2, h2]
  · simp [granted_routed h1 h2, h2]

/-- The registers change only where the gate stands open once the windows have acted: in START with
a latch that was clear, or that window 5 has cleared in the same WRITE (R123). -/
theorem writeSlots_registers {s : State} {a : Access}
    (h : (s.writeSlots a).m ≠ s.m ∨ (s.writeSlots a).v ≠ s.v) :
    regSel s.cfg a = true ∧
      if s.mode = .start then
        s.latch = false ∨ (a.sel.blk5 = true ∧ startW5Open s.cfg s.v = true)
      else s.mode ≠ .unused ∧ s.vis .reg = true := by
  obtain ⟨u, hu, e⟩ := writeSlots_eq_stmtWriteReg s a
  have hlatch : u.latch = (s.writeSlots a).latch := by rw [e, stmtWriteReg_latch]
  rw [e, ← hu.m, ← hu.v] at h
  obtain ⟨hsel, hgate⟩ := (granted_iff u a).mp (granted_of_stmtWriteReg_ne h)
  rw [hlatch, writeSlots_latch, State.mode_congr hu.m hu.cfg, State.vis_congr hu.v hu.cfg] at hgate
  refine ⟨hu.cfg ▸ hsel, ?_⟩
  split_ifs at hgate ⊢ with hm hw5
  · exact .inr hw5.right
  · exact .inl hgate
  · exact hgate

/-! ### The obligations -/

/-- Settles O49: a WRITE is what its windows do and then the register statement
(`writeSlots_eq_stmtWriteReg`); the latch by `writeSlots_latch`, the registers by
`writeSlots_registers`. -/
theorem writeEffectsAreConfined : Obligations.WriteEffectsAreConfined := by
  intro s t w rest a hp hw hstep
  cases (step_write hp hw).symm.trans hstep
  obtain ⟨u, hu, e⟩ := writeSlots_eq_stmtWriteReg (s.begin w rest) a
  refine ⟨?out, fun hm => ?latch, fun h => writeSlots_registers (s := s.begin w rest) h,
    fun x hx => hu.ram x ?ram⟩
  case out => rw [e, stmtWriteReg_out, hu.out, begin_write hw]
  case latch => exact (writeSlots_latch _ a).trans (if_neg fun h => hm h.1)
  case ram => rwa [e, stmtWriteReg_ram] at hx

/-- Settles O57: window 5 stores and unlocks, then the registers are granted
(`writeSlots_start_w5_reg`). -/
theorem startWriteUnlocksRegisterWrite : Obligations.StartWriteUnlocksRegisterWrite := by
  intro s w rest a hp hw hwf hm hsel hopen hreg
  refine ⟨_, step_write hp hw, ?_⟩
  rw [writeSlots_start_w5_reg (s := s.begin w rest) hm hsel hopen hreg, setReg_eq]
  obtain ⟨hsame, hother, -, -⟩ := ramStored_storeTo hwf (s.addr 1 3 a) a.data
  exact ⟨rfl, hsame, hother, rfl, rfl, rfl⟩

/-- Settles O24: each of these rows has the action none. -/
theorem writeStartNoAccess : Obligations.WriteStartNoAccess :=
  fun _ _ => ⟨rfl, rfl, rfl, rfl, rfl, rfl⟩

/-- Settles O25: in START with blk5 asserted the row's condition is that window 5 answers, and the
store and the unlock touch different fields. -/
theorem writeStartWindow5 : Obligations.WriteStartWindow5 := by
  intro s a hwf hm hsel
  have row := row_of_condition (i := .wrStartW5 a) (s := s) (granted := startW5Open s.cfg s.v) rfl
    (by simp [hm, hsel])
  simp only [startW5Open_iff] at row
  split_ifs at row ⊢ with hopen
  · exact ⟨_, row, rfl, ramStored_storeTo (s := s.unlock) hwf _ _⟩
  · exact row

/-- Settles O27: each of the rows means the window-0 statement of WRITE of its mode and signal. -/
theorem writeFixedLowWindow : Obligations.WriteFixedLowWindow := by
  intro s a hwf
  simp only [storesRam_iff hwf]
  and_intros <;> exact writeW0_row rfl

/-- Settles O28, window by window: each row stores to the write target at the bank register. -/
theorem writeSuperRomWindows : Obligations.WriteSuperRomWindows := by
  intro s a hwf hm
  simp only [storesRam_iff hwf, storesRom_iff, storesToTarget_iff]
  exact ⟨writeWindow_row .w1 rfl hm, writeWindow_row .w2 rfl hm, writeWindow_row .w3 rfl hm,
    writeWindow_row .w5 rfl hm⟩

/-- Settles O29, window by window, by the store and bank of each row. -/
theorem writeRam1Windows : Obligations.WriteRam1Windows := by
  intro s a hwf hm
  simp only [storesRam_iff hwf]
  exact ⟨writeWindow_row .w1 rfl hm, writeWindow_row .w2 rfl hm, writeWindow_row .w3 rfl hm,
    writeWindow_row .w5 rfl hm⟩

/-- Settles O30, window by window and for both values of the select bit. -/
theorem writeRam2Windows : Obligations.WriteRam2Windows := by
  intro s a hwf hm
  simp only [storesRam_iff hwf]
  exact ⟨writeWindowSel_row .w1 rfl hm, writeWindowSel_row .w1 rfl hm,
    writeWindowSel_row .w2 rfl hm, writeWindowSel_row .w2 rfl hm,
    writeWindowSel_row .w3 rfl hm, writeWindowSel_row .w3 rfl hm,
    writeWindowSel_row .w5 rfl hm, writeWindowSel_row .w5 rfl hm⟩

/-- Settles O31, window by window, by the store and bank of each row. -/
theorem writeSuperRamWindows : Obligations.WriteSuperRamWindows := by
  intro s a hwf hm
  simp only [storesRam_iff hwf]
  exact ⟨writeWindow_row .w1 rfl hm, writeWindow_row .w2 rfl hm, writeWindow_row .w3 rfl hm,
    writeWindow_row .w5 rfl hm⟩

/-- Settles O32, window by window and for both values of the select bit; with the bit set the write
target picks the store and its bank. -/
theorem writeRamRomWindows : Obligations.WriteRamRomWindows := by
  intro s a hwf hm
  simp only [storesRam_iff hwf, storesRom_iff, storesToRamRomTarget_iff]
  exact ⟨writeWindowSel_row .w1 rfl hm, writeWindowSel_row .w1 rfl hm,
    writeWindowSel_row .w2 rfl hm, writeWindowSel_row .w2 rfl hm,
    writeWindowSel_row .w3 rfl hm, writeWindowSel_row .w3 rfl hm,
    writeWindowSel_row .w5 rfl hm, writeWindowSel_row .w5 rfl hm⟩

/-- Settles O33, window by window, by the store and bank of each row. -/
theorem writeFlashWindows : Obligations.WriteFlashWindows := by
  simp only [Obligations.WriteFlashWindows, storesRom_iff]
  exact fun s a hm => ⟨writeWindow_row .w1 rfl hm, writeWindow_row .w2 rfl hm,
    writeWindow_row .w3 rfl hm, writeWindow_row .w5 rfl hm⟩

end Sys2Proof.Machine

/-! PROOFS. Exceptions (60_exceptions.md): hidden registers that no READ and no WRITE brings back
(R156), and what a READ tells while START is locked (R155). -/

namespace Sys2Proof.Machine

/-! ### A hidden register window outside START (R156) -/

/-- A WRITE outside START with the register window hidden changes neither register, in UNUSED and in
the routed modes alike, since the gate of R82 is closed in both. -/
theorem writeSlots_registers_of_hidden {s : State} (hm : s.mode ≠ .start)
    (hv : s.vis .reg = false) (a : Access) :
    (s.writeSlots a).m = s.m ∧ (s.writeSlots a).v = s.v := by
  have unchanged : ¬((s.writeSlots a).m ≠ s.m ∨ (s.writeSlots a).v ≠ s.v) := fun h => by
    have hgate := (writeSlots_registers h).right
    rw [if_neg hm] at hgate
    exact Bool.false_ne_true (hv.symm.trans hgate.right)
  simpa only [not_or, not_not] using unchanged

@[simp] theorem stmtWriteReg_cfg (s : State) (a : Access) : (s.stmtWriteReg a).cfg = s.cfg := by
  rcases stmtWriteReg_cases s a with ⟨-, e⟩ | e <;> simp [e]

/-- What fixes the mode, the windows and the gate: the registers, the latch and the parameters. -/
structure ControlKept (s t : State) : Prop where
  m     : t.m = s.m
  v     : t.v = s.v
  latch : t.latch = s.latch
  cfg   : t.cfg = s.cfg

theorem ControlKept.refl (s : State) : ControlKept s s :=
  ⟨rfl, rfl, rfl, rfl⟩

theorem ControlKept.trans {s t u : State} (h : ControlKept s t) (k : ControlKept t u) :
    ControlKept s u :=
  ⟨k.m.trans h.m, k.v.trans h.v, k.latch.trans h.latch, k.cfg.trans h.cfg⟩

theorem begin_controlKept (s : State) (w : TW) (rest : List TW) :
    ControlKept s (s.begin w rest) :=
  ⟨rfl, rfl, rfl, rfl⟩

/-- Outside START a READ changes no control: only START's window 5 locks. -/
theorem readProcedure_controlKept {s : State} (hm : s.mode ≠ .start) (a : Access) :
    ControlKept s (s.readProcedure a) := by
  obtain ⟨m, v, -, cfg, -⟩ := ReadEffect.readProcedure s a
  have latch : (s.readProcedure a).latch = s.latch :=
    (readProcedure_latch s a).trans (if_neg fun h => hm h.left)
  exact ⟨m, v, latch, cfg⟩

/-- With the registers hidden, a WRITE outside START changes no control: only START's window 5
unlocks. -/
theorem writeSlots_controlKept_of_hidden {s : State} (hm : s.mode ≠ .start)
    (hv : s.vis .reg = false) (a : Access) : ControlKept s (s.writeSlots a) := by
  obtain ⟨m, v⟩ := writeSlots_registers_of_hidden hm hv a
  have latch : (s.writeSlots a).latch = s.latch :=
    (writeSlots_latch s a).trans (if_neg fun h => hm h.left)
  have cfg : (s.writeSlots a).cfg = s.cfg := by
    obtain ⟨u, hu, e⟩ := writeSlots_eq_stmtWriteReg s a
    rw [e, stmtWriteReg_cfg, hu.cfg]
  exact ⟨m, v, latch, cfg⟩

theorem twTransaction_ne_reset_of_notReset {w : TW} (h : notReset w = true) :
    twTransaction w ≠ .reset := by
  have h34 : ¬w.getLsbD 34 = true := by simpa [notReset] using h
  rw [twTransaction, if_neg h34]
  split <;> simp

/-- No step adds a word to the queue, so it brings no RESET there. -/
theorem step_pending_notReset {s u : State} (hq : s.pending.all notReset = true)
    (hstep : step s = .next u) : u.pending.all notReset = true := by
  obtain ⟨-, idle, served⟩ := stepServesTheQueue s u hstep
  cases hp : s.pending with
  | nil => rwa [idle hp]
  | cons w rest =>
    rw [hp, List.all_cons, Bool.and_eq_true] at hq
    rw [served w rest hp]
    exact hq.right

theorem step_controlKept_of_hidden {s u : State} (hm : s.mode ≠ .start)
    (hv : s.vis .reg = false) (hq : s.pending.all notReset = true) (hstep : step s = .next u) :
    ControlKept s u := by
  cases hp : s.pending with
  | nil =>
    cases (step_idle hp).symm.trans hstep
    exact .refl s
  | cons w rest =>
    rw [hp, List.all_cons, Bool.and_eq_true] at hq
    cases hw : twTransaction w with
    | reset => exact absurd hw (twTransaction_ne_reset_of_notReset hq.left)
    | read a =>
      cases (step_read hp hw).symm.trans hstep
      exact (begin_controlKept s w rest).trans
        (readProcedure_controlKept (s := s.begin w rest) hm a)
    | write a =>
      cases (step_write hp hw).symm.trans hstep
      exact (begin_controlKept s w rest).trans
        (writeSlots_controlKept_of_hidden (s := s.begin w rest) hm hv a)

/-- The same along a run: the state that a step leaves is outside START and hidden again. -/
theorem run_controlKept_of_hidden {n : Nat} {s t : State} (hm : s.mode ≠ .start)
    (hv : s.vis .reg = false) (hq : s.pending.all notReset = true) (hrun : run n s = .next t) :
    ControlKept s t := by
  induction n generalizing s with
  | zero => cases hrun; exact .refl _
  | succ n ih =>
    obtain ⟨u, hu, hrest⟩ := run_succ hrun
    have hk := step_controlKept_of_hidden hm hv hq hu
    have hmu : u.mode ≠ .start := (State.mode_congr hk.m hk.cfg).trans_ne hm
    have hvu : u.vis .reg = false := (State.vis_congr hk.v hk.cfg .reg).trans hv
    exact hk.trans (ih hmu hvu (step_pending_notReset hq hu) hrest)

/-! ### A READ while START is locked (R155) -/

theorem stmtReadStartW5_latch_of_locked {s : State} (hl : s.latch = true) (a : Access) :
    (s.stmtReadStartW5 a).latch = true := by
  rw [stmtReadStartW5_latch, hl, ite_self]

/-- While START is locked a READ is window 5's statement alone: the gate of R82 refuses the
registers, and window 5 can only lock again (R92, R93). -/
theorem readProcedure_start_locked {s : State} (hm : s.mode = .start) (hl : s.latch = true)
    (a : Access) : s.readProcedure a = s.stmtReadStartW5 a := by
  have hframe := ReadEffect.stmtReadStartW5 s a
  have hm' : (s.stmtReadStartW5 a).mode = .start :=
    (State.mode_congr hframe.m hframe.cfg).trans hm
  have refused : (s.stmtReadStartW5 a).granted a = false := by
    rw [granted_start hm', stmtReadStartW5_latch_of_locked hl, Bool.not_true, Bool.and_false]
  rw [readProcedure_start hm, stmtReadReg_of_refused refused]

/-- What window 5 of START answers, and the call that it makes to the external device, depend on
that device, on the parameters, and of `V` on SWAP and window 5's visibility (R92). -/
theorem stmtReadStartW5_answer_congr {s s' : State} (hcfg : s.cfg = s'.cfg) (hrom : s.rom = s'.rom)
    (hout : s.out = s'.out) (hswap : swapField s.v = swapField s'.v)
    (hvis : s.vis (.win .w5) = s'.vis (.win .w5)) (a : Access) :
    (s.stmtReadStartW5 a).out = (s'.stmtReadStartW5 a).out ∧
      (s.stmtReadStartW5 a).rom = (s'.stmtReadStartW5 a).rom := by
  have haddr : s.addr 0 3 a = s'.addr 0 3 a := by
    rw [State.addr, State.addr, hcfg, translate_congr hswap]
  have hopen : startW5Open s.cfg s.v = startW5Open s'.cfg s'.v := by
    rw [Bool.eq_iff_iff, startW5Open_iff, startW5Open_iff, hvis, hcfg]
  simp only [State.stmtReadStartW5, hopen]
  split
  · simp only [State.lock_out, State.lock_rom, State.driveFrom_rom_out, State.driveFrom_rom_rom,
      haddr, hrom, and_self]
  · exact ⟨hout, hrom⟩

/-- The step that answers a READ while START is locked is window 5's statement, and START stays
locked. -/
theorem step_read_start_locked {s t : State} {w : TW} {rest : List TW} {a : Access}
    (hm : s.mode = .start) (hl : s.latch = true) (hp : s.pending = w :: rest)
    (hw : twTransaction w = .read a) (hstep : step s = .next t) :
    t = (s.begin w rest).stmtReadStartW5 a ∧ t.latch = true := by
  cases (step_read hp hw).symm.trans hstep
  have locked := readProcedure_start_locked (s := s.begin w rest) hm hl a
  exact ⟨locked, locked ▸ stmtReadStartW5_latch_of_locked (s := s.begin w rest) hl a⟩

/-! ### The obligations -/

/-- Settles O45, by induction over the run (`run_controlKept_of_hidden`). -/
theorem hiddenRegistersStayHidden : Obligations.HiddenRegistersStayHidden := by
  intro s n t hm hv hq hrun
  obtain ⟨m, v, latch, -⟩ := run_controlKept_of_hidden hm hv hq hrun
  exact ⟨m, v, latch⟩

/-- Settles O54: each of the two steps is window 5's statement (`step_read_start_locked`), whose
answer reads nothing in which the two states differ (`stmtReadStartW5_answer_congr`). -/
theorem lockedStartRevealsOnlyRom : Obligations.LockedStartRevealsOnlyRom := by
  intro s s' t t' w rest rest' a hcfg hrom hm hm' hl hl' hswap hvis hp hp' hw hstep hstep'
  obtain ⟨rfl, hlt⟩ := step_read_start_locked hm hl hp hw hstep
  obtain ⟨rfl, hlt'⟩ := step_read_start_locked hm' hl' hp' hw hstep'
  obtain ⟨hout, hdevice⟩ := stmtReadStartW5_answer_congr (s := s.begin w rest)
    (s' := s'.begin w rest') hcfg hrom rfl hswap hvis a
  exact ⟨hout, hdevice, hlt, hlt'⟩

end Sys2Proof.Machine

/-! PROOFS. Reset and hazards (70_reset_and_hazards.md): what RESET does in every state (R165, R166),
and the states that nothing but RESET leaves (R167). -/

namespace Sys2Proof.Machine

/-! ### RESET (R165, R166) -/

/-- RESET does not read the registers that it sets. -/
theorem resetRegisters_registers (s : State) (m v : Byte) (l : Bool) :
    State.resetRegisters { s with m := m, v := v, latch := l } = s.resetRegisters := rfl

theorem resetRegisters_resetRegisters (s : State) :
    s.resetRegisters.resetRegisters = s.resetRegisters :=
  resetRegisters_registers s resetM resetV resetL

theorem exec_reset (s : State) : exec .reset s = .next s.resetRegisters := rfl

/-- The launch state (R166): what construction leaves unspecified, RESET sets. -/
theorem resetRegisters_constructed (m v : Byte) (l : Bool) (rom : Rom) (c : Config) :
    (State.constructed m v l rom c).resetRegisters = { State.reset with rom := rom, cfg := c } :=
  rfl

/-! ### States in which every access is quiet (R167) -/

theorem RegistersAndStoresKept.controlKept {s t : State} (h : RegistersAndStoresKept s t) :
    ControlKept s t :=
  ⟨h.m, h.v, h.latch, h.cfg⟩

/-- Which conditions an access meets is fixed by the controls: neither the stores nor the driver's
fields are read. -/
theorem quiet_congr {s t : State} (h : ControlKept s t) (a : Access) : quiet t a = quiet s a := by
  obtain ⟨m, v, latch, cfg⟩ := h
  simp only [quiet, State.mode_congr m cfg, State.vis_congr v cfg,
    State.granted_congr m v latch cfg, v, cfg]

/-- Where every access is quiet, a step that is no RESET keeps everything that is not the
driver's. -/
theorem step_kept_of_quiet {s u : State} (hquiet : ∀ a, quiet s a = true)
    (hq : s.pending.all notReset = true) (hstep : step s = .next u) :
    RegistersAndStoresKept s u := by
  cases hp : s.pending with
  | nil =>
    cases (step_idle hp).symm.trans hstep
    exact .refl s
  | cons w rest =>
    rw [hp, List.all_cons, Bool.and_eq_true] at hq
    have hbegin : step s = .next (s.begin w rest) := by
      cases hw : twTransaction w with
      | reset => exact absurd hw (twTransaction_ne_reset_of_notReset hq.left)
      | read a => exact step_quiet_read hp hw (hquiet a)
      | write a => exact step_quiet_write hp hw (hquiet a)
    cases hbegin.symm.trans hstep
    exact ⟨rfl, rfl, rfl, rfl, rfl, rfl⟩

/-- The same along a run: in the state that a step leaves every access is quiet again. -/
theorem run_kept_of_quiet {n : Nat} {s t : State} (hquiet : ∀ a, quiet s a = true)
    (hq : s.pending.all notReset = true) (hrun : run n s = .next t) :
    RegistersAndStoresKept s t := by
  induction n generalizing s with
  | zero => cases hrun; exact .refl _
  | succ n ih =>
    obtain ⟨u, hu, hrest⟩ := run_succ hrun
    have hk := step_kept_of_quiet hquiet hq hu
    have hquiet' (a : Access) : quiet u a = true := (quiet_congr hk.controlKept a).trans (hquiet a)
    exact hk.trans (ih hquiet' (step_pending_notReset hq hu) hrest)

/-- While START is locked and its window 5 hidden (D9), every access is quiet: only window 5 could
unlock, and the gate of R82 refuses the registers until it does. -/
theorem quiet_of_locked_hidden_start {s : State} (hm : s.mode = .start) (hl : s.latch = true)
    (hv : s.vis (.win .w5) = false) (hgated : s.cfg.startW5VisGated = true) (a : Access) :
    quiet s a = true := by
  have closed : startW5Open s.cfg s.v = false := by
    simp [Bool.eq_false_iff, startW5Open_iff, hv, hgated]
  have refused : s.granted a = false := by
    rw [granted_start hm, hl, Bool.not_true, Bool.and_false]
  exact (quiet_start_iff hm).mpr ⟨by rw [closed, Bool.and_false], refused⟩

/-! ### The obligations -/

/-- Settles O46: in such a state every access is quiet (`quiet_of_locked_hidden_start`), so a run
without RESET keeps the registers and the stores (`run_kept_of_quiet`). -/
theorem lockedHiddenStartIsStuck : Obligations.LockedHiddenStartIsStuck := by
  intro s n t hm hl hv hgated hq hrun
  obtain ⟨m, v, latch, ram, rom, -⟩ :=
    run_kept_of_quiet (quiet_of_locked_hidden_start hm hl hv hgated) hq hrun
  exact ⟨m, v, latch, ram, rom⟩

/-- Settles O34: the next state is RESET's by `exec_reset`, the same whatever the registers held
(`resetRegisters_registers`), and unchanged by a second RESET (`resetRegisters_resetRegisters`). -/
theorem resetSetsRegisters : Obligations.ResetSetsRegisters := by
  refine fun s => ⟨exec_reset s, fun m v l => ?_, fun t ht => ?_⟩
  · rw [exec_reset, exec_reset, resetRegisters_registers]
  · cases (exec_reset s).symm.trans ht
    rw [exec_reset, resetRegisters_resetRegisters]

/-- Settles O36: RAM is constructed empty, and RESET of a constructed device gives the launch state
(`resetRegisters_constructed`). -/
theorem constructionThenReset : Obligations.ConstructionThenReset := by
  refine fun m v l rom c => ⟨fun _ => rfl, ?_⟩
  rw [exec_reset, resetRegisters_constructed]

end Sys2Proof.Machine
